-- ==== Sys2Proof/Word.lean ====
section
/-! DEFINITION. The word types of the HBC (spec 00_scope.md R10) and the six-byte read frame (10_state.md R23). -/

namespace Sys2Proof

/-- R10: `byte` is u8. -/
abbrev Byte := BitVec 8

/-- R10: u16, the width of HREQ, of TV and of the raw sensor words. -/
abbrev U16 := BitVec 16

/-- R10: u32, the width of HRSP, of STATUS and of a binary32 pattern. -/
abbrev U32 := BitVec 32

/-- R8: the 7-bit bus address of the sensor. -/
abbrev BusAddr := BitVec 7

/-- R23, R88: the RawFrame `[tempHi, tempLo, tempCRC, humHi, humLo, humCRC]`, in arrival order. -/
structure Frame where
  f0 : Byte
  f1 : Byte
  f2 : Byte
  f3 : Byte
  f4 : Byte
  f5 : Byte
  deriving DecidableEq, Repr, Inhabited

end Sys2Proof
end

