-- ==== Sys2Proof/Syntax.lean ====
section
/-! DEFINITION. The operations of the HBC as syntax: one constructor per row of spec/opcode_table.json
(30_encoding.md R83, R85, R87, R88, R89, R93), the Command they carry, and what the input pins carry in a cycle
(10_state.md R37). -/

namespace Sys2Proof

/-- R85: a decoded command byte; Off = 0, On = 1. -/
inductive Command where
  | off
  | on
  deriving DecidableEq, Repr, Inhabited

/-- R37, R110: the input `bus_rsp` of one cycle. -/
inductive BusRsp where
  | none
  | wrDone (ok : Bool)
  | rdDone (ok : Bool) (f : Frame)
  deriving DecidableEq, Repr, Inhabited

/-- R37: the inputs, sampled once per cycle. -/
structure Inputs where
  rst : Bool
  busReady : Bool
  busRsp : BusRsp
  hreq : U16
  deriving DecidableEq, Repr, Inhabited

/-- The operations of the HBC. The host requests keep the fields their opcode ignores, so that a word is its
instruction and back (R82, R91 (b)). -/
inductive Instr where
  /-- R172, HREQ OP 0b000. -/
  | nop (addr : BitVec 5) (data : Byte)
  /-- R173, HREQ OP 0b001. -/
  | humRead (addr : BitVec 5) (data : Byte)
  /-- R174, HREQ OP 0b010; DATA is the command byte. -/
  | cmdWrite (addr : BitVec 5) (data : Byte)
  /-- R175, HREQ OP 0b011. -/
  | cmdWriteEmpty (addr : BitVec 5) (data : Byte)
  /-- R176, HREQ OP 0b100; ADDR is the DIAG address. -/
  | diagRead (addr : BitVec 5) (data : Byte)
  /-- R177, HREQ OP 0b101. -/
  | rsv5 (addr : BitVec 5) (data : Byte)
  /-- R177, HREQ OP 0b110. -/
  | rsv6 (addr : BitVec 5) (data : Byte)
  /-- R177, HREQ OP 0b111. -/
  | rsv7 (addr : BitVec 5) (data : Byte)
  /-- R85, command byte 0x00. -/
  | cmdOff
  /-- R85, any other command byte. -/
  | cmdOn (c : Byte)
  /-- R87, R231, the trigger write. -/
  | trigWrite
  /-- R88, R234, the six-byte frame arriving from the sensor. -/
  | frameRead (f : Frame)
  /-- R180, the notification strobe. -/
  | notifyHum (v : U16)
  /-- R231, phase START. -/
  | busReadyCheck
  /-- R112, over any list of bytes. -/
  | crc8 (bs : List Byte)
  /-- R114, over FRAME. -/
  | frameCheck
  /-- R115, over FRAME. -/
  | frameParse
  /-- R116. -/
  | decodeT (rawT : U16)
  /-- R117. -/
  | decodeRh (rawRH : U16)
  /-- R151, over any binary32 pattern. -/
  | encode (h : U32)
  /-- R233, phase SETTLE. -/
  | settleWait
  /-- R236, phase SLEEP. -/
  | periodWait
  deriving DecidableEq, Repr, Inhabited

end Sys2Proof
end

