-- ==== Sys2Proof/WellFormed.lean ====
section
/-! DEFINITION. Which terms of `Instr` stand for an operation of the HBC. Every field of every host request, frame,
payload and operand admits every value (30_encoding.md R81); the one check is R85's: CMD_ON is tested after CMD_OFF,
so its byte is not 0x00. -/

namespace Sys2Proof

/-- R85: `CMD_ON` stands for a byte other than 0x00; every other operation is well formed with any operand (R81). -/
def Instr.wellFormed : Instr → Bool
  | .cmdOn c => c != 0x00#8
  | .nop _ _ | .humRead _ _ | .cmdWrite _ _ | .cmdWriteEmpty _ _ | .diagRead _ _ => true
  | .rsv5 _ _ | .rsv6 _ _ | .rsv7 _ _ | .cmdOff | .trigWrite | .frameRead _ | .notifyHum _ => true
  | .busReadyCheck | .crc8 _ | .frameCheck | .frameParse | .decodeT _ | .decodeRh _ | .encode _ => true
  | .settleWait | .periodWait => true

end Sys2Proof
end

