-- ==== Sys2Proof/Decode.lean ====
section
/-! DEFINITION. The bit patterns the HBC decodes and encodes (30_encoding.md R80 to R91), a total decoder that rejects
by name, the encoder, and the opcode table's rows. Words arrive on ports, not from a memory, so a pattern comes with
the format of the port it stands on. -/

namespace Sys2Proof

/-- R80: a bit pattern on a port of the HBC. HRSP is an answer and INTERNAL operations have no pattern (R93). -/
inductive PortWord where
  | hreq (w : U16)
  | cmdb (c : Byte)
  | busw (w : U16)
  | busr (w : BitVec 48)
  | notif (v : U16)
  deriving DecidableEq, Repr

/-- Why a pattern is no operation: R87, `No other bus write pattern is ever produced` (log 26). -/
inductive DecodeError where
  | notTheTrigger (w : U16)
  deriving DecidableEq, Repr

/-- The decoder's answer. -/
inductive Decoded where
  | instr (i : Instr)
  | rejected (e : DecodeError)
  deriving DecidableEq, Repr

/-- R82: HREQ.OP, bits [15:13]. -/
def hreqOp (w : U16) : BitVec 3 := w.extractLsb' 13 3

/-- R82: HREQ.ADDR, bits [12:8]. -/
def hreqAddr (w : U16) : BitVec 5 := w.extractLsb' 8 5

/-- R82: HREQ.DATA, bits [7:0]. -/
def hreqData (w : U16) : Byte := w.extractLsb' 0 8

/-- R82: the HREQ word OP ‖ ADDR ‖ DATA. -/
def hreqWord (op : BitVec 3) (addr : BitVec 5) (data : Byte) : U16 := op ++ addr ++ data

/-- R83: the HREQ opcode map, total on all 16-bit words. -/
def decodeHreq (w : U16) : Instr :=
  let a := hreqAddr w
  let d := hreqData w
  match (hreqOp w).toNat with
  | 0 => .nop a d
  | 1 => .humRead a d
  | 2 => .cmdWrite a d
  | 3 => .cmdWriteEmpty a d
  | 4 => .diagRead a d
  | 5 => .rsv5 a d
  | 6 => .rsv6 a d
  | _ => .rsv7 a d

/-- R85: the command byte; CMD_ON is tested after CMD_OFF. -/
def decodeCmdb (c : Byte) : Instr := if c = 0x00#8 then .cmdOff else .cmdOn c

/-- R88: the frame of a 48-bit pattern, f0 in bits [47:40]. -/
def Frame.ofBits (w : BitVec 48) : Frame where
  f0 := w.extractLsb' 40 8
  f1 := w.extractLsb' 32 8
  f2 := w.extractLsb' 24 8
  f3 := w.extractLsb' 16 8
  f4 := w.extractLsb' 8 8
  f5 := w.extractLsb' 0 8

/-- R88: the 48-bit pattern of a frame, f0 in bits [47:40]. -/
def Frame.toBits (f : Frame) : BitVec 48 := f.f0 ++ f.f1 ++ f.f2 ++ f.f3 ++ f.f4 ++ f.f5

/-- R81: the decoder of a pattern on its port. Only a bus write that is not the trigger is rejected (R87). -/
def decode : PortWord → Decoded
  | .hreq w => .instr (decodeHreq w)
  | .cmdb c => .instr (decodeCmdb c)
  | .busw w => if w = 0x2C06#16 then .instr .trigWrite else .rejected (.notTheTrigger w)
  | .busr w => .instr (.frameRead (Frame.ofBits w))
  | .notif v => .instr (.notifyHum v)

/-- The pattern of an operation, from the tables of R83, R85, R87, R88 and R89; none for the operations of R93. -/
def encode : Instr → Option PortWord
  | .nop a d => some (.hreq (hreqWord 0b000#3 a d))
  | .humRead a d => some (.hreq (hreqWord 0b001#3 a d))
  | .cmdWrite a d => some (.hreq (hreqWord 0b010#3 a d))
  | .cmdWriteEmpty a d => some (.hreq (hreqWord 0b011#3 a d))
  | .diagRead a d => some (.hreq (hreqWord 0b100#3 a d))
  | .rsv5 a d => some (.hreq (hreqWord 0b101#3 a d))
  | .rsv6 a d => some (.hreq (hreqWord 0b110#3 a d))
  | .rsv7 a d => some (.hreq (hreqWord 0b111#3 a d))
  | .cmdOff => some (.cmdb 0x00#8)
  | .cmdOn c => some (.cmdb c)
  | .trigWrite => some (.busw 0x2C06#16)
  | .frameRead f => some (.busr f.toBits)
  | .notifyHum v => some (.notif v)
  | .busReadyCheck | .crc8 _ | .frameCheck | .frameParse | .decodeT _ | .decodeRh _ | .encode _ => none
  | .settleWait | .periodWait => none

/-- One row of spec/opcode_table.json that has an encoding: its width and its match and mask, read as one number. -/
structure TableRow where
  bits : Nat
  matchBits : Nat
  mask : Nat
  deriving DecidableEq, Repr

/-- The opcode table's row of an operation, as the table gives match and mask; BUSR and NOTIF patterns have no fixed
bit, and the operations of R93 have no row with an encoding. -/
def Instr.tableRow : Instr → Option TableRow
  | .nop _ _ => some ⟨16, 0x0000, 0xE000⟩
  | .humRead _ _ => some ⟨16, 0x2000, 0xE000⟩
  | .cmdWrite _ _ => some ⟨16, 0x4000, 0xE000⟩
  | .cmdWriteEmpty _ _ => some ⟨16, 0x6000, 0xE000⟩
  | .diagRead _ _ => some ⟨16, 0x8000, 0xE000⟩
  | .rsv5 _ _ => some ⟨16, 0xA000, 0xE000⟩
  | .rsv6 _ _ => some ⟨16, 0xC000, 0xE000⟩
  | .rsv7 _ _ => some ⟨16, 0xE000, 0xE000⟩
  | .cmdOff => some ⟨8, 0x00, 0xFF⟩
  | .cmdOn _ => some ⟨8, 0x00, 0x00⟩
  | .trigWrite => some ⟨16, 0x2C06, 0xFFFF⟩
  | .frameRead _ => some ⟨48, 0, 0⟩
  | .notifyHum _ => some ⟨16, 0, 0⟩
  | .busReadyCheck | .crc8 _ | .frameCheck | .frameParse | .decodeT _ | .decodeRh _ | .encode _ => none
  | .settleWait | .periodWait => none

/-- The width and the bits of a pattern as one number, bit 0 the least significant. -/
def PortWord.number : PortWord → Nat × Nat
  | .hreq w => (16, w.toNat)
  | .cmdb c => (8, c.toNat)
  | .busw w => (16, w.toNat)
  | .busr w => (48, w.toNat)
  | .notif v => (16, v.toNat)

/-- The port a table word of `nbits` bits stands on. Three formats are 16 bits wide: the trigger's one pattern is read
as BUSW and every other as HREQ (log 13); a number too large for the width is none. -/
def tablePort (nbits w : Nat) : Option PortWord :=
  if 2 ^ nbits ≤ w then none
  else match nbits with
    | 8 => some (.cmdb (BitVec.ofNat 8 w))
    | 16 => if w = 0x2C06 then some (.busw 0x2C06#16) else some (.hreq (BitVec.ofNat 16 w))
    | 48 => some (.busr (BitVec.ofNat 48 w))
    | _ => none

/-- The instruction the decoder reads from a table word of `nbits` bits, numbered as the table numbers them. -/
def decodeTableWord (nbits w : Nat) : Option Instr :=
  match tablePort nbits w with
  | none => none
  | some p =>
    match decode p with
    | .instr i => some i
    | .rejected _ => none

end Sys2Proof
end

