-- ==== Sys2Proof/Config.lean ====
section
/-! DEFINITION. What an implementation fixes (00_scope.md R8) and the free draws of the environment
(10_state.md R41, 93_implementation_defined.md Part 1). None of the opaque constants has a body a proof can see. -/

namespace Sys2Proof.Config

/-- R8: CPM, cycles per millisecond, OPEN: any natural number from 1 on (log 9). -/
opaque cpmPos : ℕ+

/-- R8: CPM as a natural number. -/
def cpm : Nat := cpmPos

/-- R8: SENSOR_ADDR, OPEN, any 7-bit address (log 10). -/
opaque sensorAddr : BusAddr

/-- How many bits W_ACQ has beyond the fewest that hold 1000·CPM (R8, D29; log 11). -/
opaque wAcqSlack : Nat

/-- How many bits W_ACT has beyond the fewest that hold 3000·CPM (R8, D29; log 11). -/
opaque wActSlack : Nat

/-- R8, R22: W_ACQ, any width that holds 1000·CPM. -/
def wAcq : Nat := Nat.size (1000 * cpm) + wAcqSlack

/-- R8, R30: W_ACT, any width that holds 3000·CPM. -/
def wAct : Nat := Nat.size (3000 * cpm) + wActSlack

/-- R153: ENC_NONFINITE, the OPEN result of ENCODE for a NaN or infinite input (log 12). -/
opaque encNonfinite : U16

/-- R41, R111, R171: what the environment puts on the input pins in cycle `k`, a free draw (logs 1 and 2). -/
opaque freeInputs (k : Nat) : Inputs

end Sys2Proof.Config
end

