-- ==== Sys2Proof/Machine/State.lean ====
section
/-! DEFINITION. The state of the HBC (10_state.md R21 to R33), the outputs of the cycle last stepped (R38), the model's
own fields (logs 1 to 4), the closed reasons a step could stop, and the state after reset (70_reset_and_hazards.md
R291). -/

namespace Sys2Proof.Machine

/-- R260, R81: the HBC has no trap and every decoder is total, so no reason to fault exists and none is raised: the
type has no constructor (log 17; safe). -/
inductive Fault where
  deriving DecidableEq, Repr

/-- The only refusal: an operation with no meaning yet, raised by an arm of `exec` alone (safe: the run stops). No arm
raises it now. -/
inductive Refusal where
  | notModelled (mnemonic : String)
  deriving DecidableEq, Repr

/-- R21: the Acquisition Loop's phases; codes 6 and 7 are never reached (log 16). -/
inductive Phase where
  | start
  | wr
  | settle
  | rd
  | eval
  | sleep
  deriving DecidableEq, Repr

/-- R92: the result codes; 6 and 7 are never produced (log 16). -/
inductive Result where
  | none
  | ok
  | busNotReady
  | writeFailed
  | readFailed
  | checksumMismatch
  deriving DecidableEq, Repr

/-- R29, R201: the Actuator Controller's states. -/
inductive ActState where
  | idle
  | driving
  deriving DecidableEq, Repr

/-- R32: the single-slot command channel. -/
structure Slot where
  valid : Bool
  cmd : Command
  deriving DecidableEq, Repr

/-- R38, R110: a one-cycle request to the bus master. -/
inductive BusReq where
  | write (addr : BusAddr) (bytes : List Byte)
  | read (addr : BusAddr) (len : Nat)
  deriving DecidableEq, Repr

/-- R38: the outputs of one cycle. -/
structure Outputs where
  busReq : Option BusReq
  hrsp : U32
  notify : Option U16
  diag : Option Result
  actOut : Bool
  deriving DecidableEq, Repr

/-- The named values inside one cycle (log 4): `SLOT_set` of R174, `consume` of R202 and R203, the CRC of R112, the
verdict of R114, and `rawT`, `rawRH`, `t`, `h`, `v` of R235. Clear between cycles. -/
structure Signals where
  slotSet : Option Command
  consume : Bool
  crc : Byte
  frameOk : Bool
  rawT : U16
  rawRH : U16
  t : U32
  h : U32
  v : U16
  deriving DecidableEq, Repr

/-- R21 to R33, the outputs of the last cycle, and the model's own fields. -/
structure State where
  /-- R21, ACQ_PHASE. -/
  acqPhase : Phase
  /-- R22, ACQ_CNT, a natural number below 2^W_ACQ (R10; log 11). -/
  acqCnt : Nat
  /-- R23, FRAME. -/
  frame : Frame
  /-- R24, MEAS_T, a binary32 pattern. -/
  measT : U32
  /-- R25, MEAS_RH, a binary32 pattern. -/
  measRH : U32
  /-- R26, TV. -/
  tv : U16
  /-- R27, LAST_RESULT. -/
  lastResult : Result
  /-- R28, CMD_LAST. -/
  cmdLast : Byte
  /-- R29, ACT_STATE. -/
  actState : ActState
  /-- R30, ACT_CNT, a natural number below 2^W_ACT (R10; log 11). -/
  actCnt : Nat
  /-- R31, ACT_CMD. -/
  actCmd : Command
  /-- R32, SLOT. -/
  slot : Slot
  /-- R33, OUT; true is high. -/
  out : Bool
  /-- R38, the outputs driven in the cycle last stepped (log 3). -/
  outputs : Outputs
  /-- The values inside the cycle (log 4). -/
  signals : Signals
  /-- The inputs of the coming cycles, the head those of the present one (log 1). -/
  stimuli : List Inputs
  /-- How many cycles were stepped; the free draws read it (log 2). -/
  cycle : Nat
  deriving DecidableEq, Repr

/-- R292: the outputs of a cycle with reset asserted. -/
def Outputs.reset : Outputs where
  busReq := none
  hrsp := 0x00000000#32
  notify := none
  diag := none
  actOut := true

/-- The signals between cycles: all clear (log 4). -/
def Signals.clear : Signals where
  slotSet := none
  consume := false
  crc := 0x00#8
  frameOk := false
  rawT := 0x0000#16
  rawRH := 0x0000#16
  t := 0x00000000#32
  h := 0x00000000#32
  v := 0x0000#16

/-- R290, R291: RESET_STATE, which is also the power-on state. The four last fields are the model's (logs 1 to 4). -/
def State.reset : State where
  acqPhase := .start
  acqCnt := 0
  frame := ⟨0x00#8, 0x00#8, 0x00#8, 0x00#8, 0x00#8, 0x00#8⟩
  measT := 0x00000000#32
  measRH := 0x00000000#32
  tv := 0x0000#16
  lastResult := .none
  cmdLast := 0x00#8
  actState := .idle
  actCnt := 0
  actCmd := .off
  slot := ⟨false, .off⟩
  out := true
  outputs := Outputs.reset
  signals := Signals.clear
  stimuli := []
  cycle := 0

end Sys2Proof.Machine
end

