-- ==== Sys2Proof/Machine/Operands.lean ====
section
/-! DEFINITION. How operands are assembled: the command byte (30_encoding.md R85), the words of the frame
(20_memory.md R61, 40_bus_codec.md R115), zero extension (00_scope.md R10), and the two mappings the host makes at its
side of the port (30_encoding.md R86, R90). -/

namespace Sys2Proof.Machine

/-- R85: `decodeCmd(c) = if c = 0x00 then Off else On`. -/
def decodeCmd (c : Byte) : Command := if c = 0x00#8 then .off else .on

/-- R10, R84: `zext_32`. -/
def zext32 (n : Nat) (v : BitVec n) : U32 := v.setWidth 32

/-- R61, R115: `rawT = FRAME[0] ‖ FRAME[1]`. -/
def frameRawT (f : Frame) : U16 := f.f0 ++ f.f1

/-- R61, R115: `rawRH = FRAME[3] ‖ FRAME[4]`. -/
def frameRawRH (f : Frame) : U16 := f.f3 ++ f.f4

/-- R86: the HREQ word the host drives for a command write with this payload; bytes after the first are discarded. -/
def hreqOfPayload : List Byte → U16
  | [] => 0x6000#16
  | c :: _ => 0x4000#16 ||| c.setWidth 16

/-- R63, R90: the bytes of a humidity value on the air, low byte first. -/
def airBytes (v : U16) : List Byte := [v.extractLsb' 0 8, v.extractLsb' 8 8]

end Sys2Proof.Machine
end

