-- ==== Sys2Proof/Machine/Flags.lean ====
section
/-! DEFINITION. The HBC has no condition codes (10_state.md R34). This file holds what stands in their place: the codes
of the state elements, the STATUS word (R35) and the DIAG register map (R36), all computed from state. -/

namespace Sys2Proof.Machine

/-- R21: the code of a phase. -/
def Phase.code : Phase → BitVec 3
  | .start => 0#3
  | .wr => 1#3
  | .settle => 2#3
  | .rd => 3#3
  | .eval => 4#3
  | .sleep => 5#3

/-- R92: the code of a result. -/
def Result.code : Result → BitVec 3
  | .none => 0#3
  | .ok => 1#3
  | .busNotReady => 2#3
  | .writeFailed => 3#3
  | .readFailed => 4#3
  | .checksumMismatch => 5#3

/-- R29: IDLE = 0, DRIVING = 1. -/
def ActState.code : ActState → BitVec 1
  | .idle => 0#1
  | .driving => 1#1

/-- R31, R32: Off = 0, On = 1. -/
def commandCode : Command → BitVec 1
  | .off => 0#1
  | .on => 1#1

/-- R35: the STATUS word. -/
def State.status (s : State) : U32 :=
  zext32 13 (commandCode s.slot.cmd ++ BitVec.ofBool s.slot.valid ++ BitVec.ofBool s.out ++ commandCode s.actCmd ++
    s.actState.code ++ 0#1 ++ s.acqPhase.code ++ 0#1 ++ s.lastResult.code)

/-- R36: the DIAG register map; the reserved addresses 0x05 to 0x1F read 0. -/
def State.diagWord (s : State) (a : BitVec 5) : U32 :=
  match a.toNat with
  | 0x00 => s.status
  | 0x01 => zext32 16 s.tv
  | 0x02 => s.measT
  | 0x03 => s.measRH
  | 0x04 => zext32 8 s.cmdLast
  | _ => 0x00000000#32

end Sys2Proof.Machine
end

