-- ==== Sys2Proof/Machine/Ops.lean ====
section
/-! DEFINITION. The named operations over the state: what the input pins carry, the durations, the register writes and
output events the rules are made of, the end of an iteration (the HBC's counterpart of taking an exception,
44_acquisition_loop.md R237 and 60_exceptions.md R262), the merge of SLOT (43_actuator.md R205), reset
(70_reset_and_hazards.md R290 to R292), and the opening and closing of a cycle (10_state.md R39). -/

namespace Sys2Proof.Machine

/-! ### Durations (00_scope.md R8) -/

/-- R8: T_SETTLE_MS. -/
def tSettleMs : Nat := 20

/-- R8: T_PERIOD_MS. -/
def tPeriodMs : Nat := 1000

/-- R8: T_OFF_MS. -/
def tOffMs : Nat := 3000

/-- R8: T_ON_MS. -/
def tOnMs : Nat := 1000

/-- R8: `S = 20·CPM` cycles. -/
def settleCycles : Nat := tSettleMs * Config.cpm

/-- R8: `P = 1000·CPM` cycles. -/
def periodCycles : Nat := tPeriodMs * Config.cpm

/-- R204: `dur`, D_OFF or D_ON cycles. -/
def dur : Command → Nat
  | .off => tOffMs * Config.cpm
  | .on => tOnMs * Config.cpm

/-! ### Inputs (10_state.md R37) -/

/-- R94: the pins of a cycle with no stimulus: hreq = NOP, bus_rsp = NONE, bus_ready = 1, no reset. -/
def Inputs.idle : Inputs where
  rst := false
  busReady := true
  busRsp := .none
  hreq := 0x0000#16

/-- The inputs of the cycle `j` cycles ahead: listed, or past the end of the list a free draw (logs 1 and 2). -/
def State.inputAt (s : State) (j : Nat) : Inputs :=
  match s.stimuli[j]? with
  | some i => i
  | none => Config.freeInputs (s.cycle + j)

/-- R37: the inputs sampled in the present cycle. -/
def State.inputs (s : State) : Inputs := s.inputAt 0

/-! ### Sequencing -/

/-- Runs `f` on the next state of an outcome; a fault or a refusal stays one. -/
def andThen (o : Host.Outcome State Fault Refusal) (f : State → Host.Outcome State Fault Refusal) :
    Host.Outcome State Fault Refusal :=
  match o with
  | .next s => f s
  | .fault r => .fault r
  | .refused r => .refused r

/-! ### Register writes and output events -/

/-- R84, R170: drives `hrsp` in this cycle. -/
def State.respond (s : State) (w : U32) : State := { s with outputs := { s.outputs with hrsp := w } }

/-- R110: drives `bus_req` in this cycle. -/
def State.request (s : State) (r : BusReq) : State := { s with outputs := { s.outputs with busReq := some r } }

/-- R180: emits NOTIFY(v) in this cycle. -/
def State.notify (s : State) (v : U16) : State := { s with outputs := { s.outputs with notify := some v } }

/-- R240: emits DIAG(code) in this cycle. -/
def State.diagEvent (s : State) (c : Result) : State := { s with outputs := { s.outputs with diag := some c } }

/-- R174: `CMD_LAST <- c`. -/
def State.latchCommand (s : State) (c : Byte) : State := { s with cmdLast := c }

/-- R174: `SLOT_set <- (valid = 1, cmd)`, merged into SLOT by `slotNext`. -/
def State.requestCommand (s : State) (c : Command) : State := { s with signals := { s.signals with slotSet := some c } }

/-- R12: `phase <- P`. -/
def State.goto (s : State) (p : Phase) : State := { s with acqPhase := p }

/-- R22: `ACQ_CNT <- n`, n no more than W_ACQ bits hold (log 11). -/
def State.loadAcqCnt (s : State) (n : Nat) : State := { s with acqCnt := n }

/-- R10, R267: an unsigned down-counter of `w` bits; from 0 it would wrap, which never happens (R40; log 11). -/
def countDown (w c : Nat) : Nat := if c = 0 then 2 ^ w - 1 else c - 1

/-- R233, R236: `ACQ_CNT <- ACQ_CNT − 1`. -/
def State.countAcq (s : State) : State := { s with acqCnt := countDown Config.wAcq s.acqCnt }

/-- R234: `FRAME <- f`. -/
def State.latchFrame (s : State) (f : Frame) : State := { s with frame := f }

/-- R235: `MEAS_T <- t ; MEAS_RH <- h ; TV <- v`, together in one cycle (R119). -/
def State.commit (s : State) (t h : U32) (v : U16) : State := { s with measT := t, measRH := h, tv := v }

/-- R237, R262: EndIter(code), the one way an iteration ends, with success or with an error: LAST_RESULT takes the
code, DIAG(code) is emitted, ACQ_CNT takes P and the phase becomes SLEEP. Nothing else changes and no state is saved;
the loop leaves SLEEP for START by R236, which is all there is of a return (R264). -/
def State.endIter (s : State) (c : Result) : State :=
  (({ s with lastResult := c }.diagEvent c).loadAcqCnt periodCycles).goto .sleep

/-- R205: SlotNext; a new write wins over a consume. -/
def slotNext (slot : Slot) (slotSet : Option Command) (consume : Bool) : Slot :=
  match slotSet with
  | some c => ⟨true, c⟩
  | none => if consume then ⟨false, slot.cmd⟩ else slot

/-! ### The cycle (10_state.md R39) -/

/-- R38, R39: the outputs before any event of the cycle: no request, no answer, no strobe, and `act_out = s.OUT`. -/
def State.beginCycle (s : State) : State :=
  { s with outputs := ⟨none, 0x00000000#32, none, none, s.out⟩, signals := Signals.clear }

/-- The next cycle's inputs come to the pins (log 1). -/
def State.advanceInputs (s : State) : State := { s with stimuli := s.stimuli.tail, cycle := s.cycle + 1 }

/-- R39, R205: `s'.SLOT <- SlotNext(...)`; the signals die with the cycle (log 4). -/
def State.endCycle (s : State) : State :=
  { s with slot := slotNext s.slot s.signals.slotSet s.signals.consume, signals := Signals.clear }.advanceInputs

/-- R290, R292: a cycle with rst = 1: RESET_STATE and the outputs of R292, whatever the state and the other inputs. -/
def State.resetCycle (s : State) : State :=
  { State.reset with stimuli := s.stimuli, cycle := s.cycle }.advanceInputs

end Sys2Proof.Machine
end

