-- ==== Sys2Proof/Machine/Acquisition.lean ====
section
/-! DEFINITION. The phase rules of the Acquisition Loop (44_acquisition_loop.md R231 to R236) but EVAL, which
Machine/Cycle.lean composes. An operation of the sequencer takes effect in its phase alone (R230; log 7). -/

namespace Sys2Proof.Machine

/-- R231, BUS_READY_CHECK: in START, a bus that is not ready ends the iteration. -/
def execBusReadyCheck (s : State) : Host.Outcome State Fault Refusal :=
  if s.acqPhase = .start ∧ s.inputs.busReady = false then .next (s.endIter .busNotReady) else .next s

/-- R87, R231, TRIG_WRITE: in START with the bus ready, `emit BUS_REQ(WRITE, SENSOR_ADDR, [0x2C, 0x06])` and
`phase <- WR`. -/
def execTrigWrite (s : State) : Host.Outcome State Fault Refusal :=
  if s.acqPhase = .start ∧ s.inputs.busReady = true then
    .next ((s.request (.write Config.sensorAddr [0x2C#8, 0x06#8])).goto .wr)
  else .next s

/-- R232, phase WR: WR_DONE(1) starts the settling delay, WR_DONE(0) ends the iteration, anything else is ignored. -/
def State.awaitWrite (s : State) : State :=
  match s.inputs.busRsp with
  | .wrDone true => (s.loadAcqCnt settleCycles).goto .settle
  | .wrDone false => s.endIter .writeFailed
  | .none => s
  | .rdDone _ _ => s

/-- R233, SETTLE_WAIT: in SETTLE, the count, and in its last cycle `emit BUS_REQ(READ, SENSOR_ADDR, 6)`. -/
def execSettleWait (s : State) : Host.Outcome State Fault Refusal :=
  if s.acqPhase = .settle then
    if s.acqCnt = 1 then .next (((s.request (.read Config.sensorAddr 6)).loadAcqCnt 0).goto .rd)
    else .next s.countAcq
  else .next s

/-- R234, FRAME_READ: the frame of RD_DONE(1, f), accepted in RD and ignored in any other phase (R111). -/
def execFrameRead (f : Frame) (s : State) : Host.Outcome State Fault Refusal :=
  if s.acqPhase = .rd then .next ((s.latchFrame f).goto .eval) else .next s

/-- R236, PERIOD_WAIT: in SLEEP, the count, and after its last cycle START. -/
def execPeriodWait (s : State) : Host.Outcome State Fault Refusal :=
  if s.acqPhase = .sleep then
    if s.acqCnt = 1 then .next ((s.loadAcqCnt 0).goto .start) else .next s.countAcq
  else .next s

end Sys2Proof.Machine
end

