-- ==== Sys2Proof/Machine/Actuator.lean ====
section
/-! DEFINITION. The Actuator Controller (43_actuator.md R201 to R203). SLOT itself is merged at the end of the cycle
(R205, `State.endCycle`). -/

namespace Sys2Proof.Machine

/-- R202: the start of a sequence, in IDLE with a pending command. -/
def State.startPulse (s : State) : State :=
  { s with
    actCmd := s.slot.cmd
    actCnt := dur s.slot.cmd
    out := false
    actState := .driving
    signals := { s.signals with consume := true } }

/-- R203: the end of the hold. -/
def State.endPulse (s : State) : State :=
  { s with out := true, actState := .idle, actCnt := 0, signals := { s.signals with consume := false } }

/-- R203: the hold, one cycle less to run. -/
def State.holdPulse (s : State) : State :=
  { s with actCnt := countDown Config.wAct s.actCnt, signals := { s.signals with consume := false } }

/-- R202, IDLE with no pending command: nothing changes. -/
def State.stayIdle (s : State) : State := { s with signals := { s.signals with consume := false } }

/-- R201: exactly one of the steps R202 and R203, by ACT_STATE at the start of the cycle. -/
def State.actStep (s : State) : State :=
  match s.actState with
  | .idle => if s.slot.valid then s.startPulse else s.stayIdle
  | .driving => if s.actCnt = 1 then s.endPulse else s.holdPulse

end Sys2Proof.Machine
end

