-- ==== Sys2Proof/Machine/HostPort.lean ====
section
/-! DEFINITION. The host operations (42_host_port_router.md R172 to R177) and the command byte (30_encoding.md R85).
Each meaning is the operation's own effect, on start-of-cycle values; the clock cycle around it is Machine/Cycle.lean
(log 6). -/

namespace Sys2Proof.Machine

/-- R172, NOP: `hrsp <- 0`. -/
def execNop (_addr : BitVec 5) (_data : Byte) (s : State) : Host.Outcome State Fault Refusal :=
  .next (s.respond 0x00000000#32)

/-- R173, HUM_READ: `hrsp <- zext_32(TV)`. -/
def execHumRead (_addr : BitVec 5) (_data : Byte) (s : State) : Host.Outcome State Fault Refusal :=
  .next (s.respond (zext32 16 s.tv))

/-- R85, CMD_OFF: the command byte asks for the Off sequence, through `SLOT_set` of R174 (log 23). -/
def execCmdOff (s : State) : Host.Outcome State Fault Refusal :=
  .next (s.requestCommand (decodeCmd 0x00#8))

/-- R85, CMD_ON: a command byte other than 0x00 asks for the On sequence, through `SLOT_set` of R174 (logs 23, 24). -/
def execCmdOn (c : Byte) (s : State) : Host.Outcome State Fault Refusal :=
  .next (s.requestCommand (decodeCmd c))

/-- R174, CMD_WRITE: `CMD_LAST <- c`, `hrsp <- 0`, and the command byte's own effect, which is `SLOT_set`. -/
def execCmdWrite (_addr : BitVec 5) (c : Byte) (s : State) : Host.Outcome State Fault Refusal :=
  let s1 := (s.respond 0x00000000#32).latchCommand c
  if c = 0x00#8 then execCmdOff s1 else execCmdOn c s1

/-- R175, CMD_WRITE_EMPTY: a no-op; `hrsp <- 0`. -/
def execCmdWriteEmpty (_addr : BitVec 5) (_data : Byte) (s : State) : Host.Outcome State Fault Refusal :=
  .next (s.respond 0x00000000#32)

/-- R176, DIAG_READ: `hrsp <- DIAG[a]`. -/
def execDiagRead (addr : BitVec 5) (_data : Byte) (s : State) : Host.Outcome State Fault Refusal :=
  .next (s.respond (s.diagWord addr))

/-- R177, RSV5: reserved, no effect; `hrsp <- 0`. -/
def execRsv5 (_addr : BitVec 5) (_data : Byte) (s : State) : Host.Outcome State Fault Refusal :=
  .next (s.respond 0x00000000#32)

/-- R177, RSV6: reserved, no effect; `hrsp <- 0`. -/
def execRsv6 (_addr : BitVec 5) (_data : Byte) (s : State) : Host.Outcome State Fault Refusal :=
  .next (s.respond 0x00000000#32)

/-- R177, RSV7: reserved, no effect; `hrsp <- 0`. -/
def execRsv7 (_addr : BitVec 5) (_data : Byte) (s : State) : Host.Outcome State Fault Refusal :=
  .next (s.respond 0x00000000#32)

end Sys2Proof.Machine
end

