-- ==== Sys2Proof/Machine/Binary32.lean ====
section
/-! DEFINITION. Rationals and binary32 (00_scope.md R11): the value of a pattern, the rounding of a rational to the
nearest pattern, and the rounding half away from zero. Exact rationals inside, one rounding. -/

namespace Sys2Proof.Machine

/-- R11: the exponent field, bits [30:23]. -/
def expField (b : U32) : Nat := (b.extractLsb' 23 8).toNat

/-- R11: the fraction field, bits [22:0]. -/
def fracField (b : U32) : Nat := (b.extractLsb' 0 23).toNat

/-- R11, R153: not a NaN or an infinity, which have exponent field 0xFF. -/
def isFinite (b : U32) : Bool := expField b != 0xFF

/-- R11: the magnitude of a finite pattern, counted in units of 2^-149 (log 21 for the subnormals). -/
def magUnits (b : U32) : Nat :=
  if expField b = 0 then fracField b else (2 ^ 23 + fracField b) * 2 ^ (expField b - 1)

/-- R11: `val(b)`, the rational value of a finite pattern; both zeros have value 0. -/
def val32 (b : U32) : ℚ := (if b.msb then -1 else 1) * (magUnits b : ℚ) / 2 ^ 149

/-- The natural number nearest to `n / d`, ties to even (R11). -/
def roundHalfEven (n d : Nat) : Nat :=
  if 2 * (n % d) < d then n / d else if d < 2 * (n % d) then n / d + 1 else n / d + n / d % 2

/-- R11: the pattern, without its sign, of the binary32 nearest to `n / d`, ties to the even fraction. `n / d` is
counted in units of 2^-149; `shift` more bits are dropped so that 24 remain. Past the largest finite value the pattern
is infinity's (log 21). -/
def rneMagnitude (n d : Nat) : Nat :=
  let units := n * 2 ^ 149
  let shift := Nat.log2 (units / d) - 23
  min (shift * 2 ^ 23 + roundHalfEven units (d * 2 ^ shift)) 0x7F800000

/-- R11: `rne32(q)`; `rne32(0)` is +0. -/
def rne32 (q : ℚ) : U32 := BitVec.ofBool (q.num < 0) ++ BitVec.ofNat 31 (rneMagnitude q.num.natAbs q.den)

/-- R11: `roundHalfAway(q) = sign(q) · floor(|q| + 1/2)`. -/
def roundHalfAway (q : ℚ) : ℤ := q.num.sign * ((2 * q.num.natAbs + q.den) / (2 * q.den) : ℕ)

end Sys2Proof.Machine
end

