-- ==== Sys2Proof/Machine/Codec.lean ====
section
/-! DEFINITION. The Bus Protocol Codec's pure operations (40_bus_codec.md R112 to R117). Each writes no state of the
HBC; its result goes on the signal that R235 names, for the rest of the cycle (logs 4 and 8). -/

namespace Sys2Proof.Machine

/-- R8: CRC_POLY. -/
def crcPoly : Byte := 0x31#8

/-- R8: CRC_INIT. -/
def crcInit : Byte := 0xFF#8

/-- R112: one of the eight shifts of a byte, most significant bit first. -/
def crcShift (crc : Byte) : Byte := if crc.msb then (crc <<< 1) ^^^ crcPoly else crc <<< 1

/-- R112: `n` shifts. -/
def crcShifts : Nat → Byte → Byte
  | 0, crc => crc
  | n + 1, crc => crcShifts n (crcShift crc)

/-- R112: one byte taken into the running CRC. -/
def crcByte (crc b : Byte) : Byte := crcShifts 8 (crc ^^^ b)

/-- R112: CRC8; the final XOR is 0x00. -/
def crc8 (bs : List Byte) : Byte := bs.foldl crcByte crcInit

/-- R114: FRAME_CHECK as a function of the frame. -/
def frameValid (f : Frame) : Bool := crc8 [f.f0, f.f1] == f.f2 && crc8 [f.f3, f.f4] == f.f5

/-- R116: DECODE_T, in °C. -/
def decodeTemperature (rawT : U16) : U32 := rne32 (-45 + 175 * rawT.toNat / 65535)

/-- R117: DECODE_RH, in %RH. -/
def decodeHumidity (rawRH : U16) : U32 := rne32 (100 * rawRH.toNat / 65535)

/-- R112, CRC8 over any list of bytes. -/
def execCrc8 (bs : List Byte) (s : State) : Host.Outcome State Fault Refusal :=
  .next { s with signals := { s.signals with crc := crc8 bs } }

/-- R114, FRAME_CHECK over FRAME: a CRC8 over each word, each compared with its own byte of the frame. -/
def execFrameCheck (s : State) : Host.Outcome State Fault Refusal :=
  andThen (execCrc8 [s.frame.f0, s.frame.f1] s) fun a =>
  andThen (execCrc8 [s.frame.f3, s.frame.f4] a) fun b =>
    .next { b with signals :=
      { b.signals with frameOk := a.signals.crc == s.frame.f2 && b.signals.crc == s.frame.f5 } }

/-- R115, FRAME_PARSE over FRAME. -/
def execFrameParse (s : State) : Host.Outcome State Fault Refusal :=
  .next { s with signals := { s.signals with rawT := frameRawT s.frame, rawRH := frameRawRH s.frame } }

/-- R116, DECODE_T. -/
def execDecodeT (rawT : U16) (s : State) : Host.Outcome State Fault Refusal :=
  .next { s with signals := { s.signals with t := decodeTemperature rawT } }

/-- R117, DECODE_RH. -/
def execDecodeRh (rawRH : U16) (s : State) : Host.Outcome State Fault Refusal :=
  .next { s with signals := { s.signals with h := decodeHumidity rawRH } }

end Sys2Proof.Machine
end

