-- ==== Sys2Proof/Machine/Telemetry.lean ====
section
/-! DEFINITION. The Fixed-Point Telemetry Encoder (41_telemetry_encoder.md R150 to R154) and the notification output
(42_host_port_router.md R180). -/

namespace Sys2Proof.Machine

/-- R151 to R153: ENCODE on every binary32 pattern: the exact product by 100, rounded half away from zero, mod 2^16;
ENC_NONFINITE for a NaN or an infinity. -/
def encodeHumidity (h : U32) : U16 :=
  if isFinite h then BitVec.ofInt 16 (roundHalfAway (val32 h * 100)) else Config.encNonfinite

/-- R154: `TVof(rawRH) = ENCODE(DECODE_RH(rawRH))`. -/
def tvOf (rawRH : U16) : U16 := encodeHumidity (decodeHumidity rawRH)

/-- R151, ENCODE; its result goes on the signal `v` of R235 (logs 4 and 8). -/
def execEncode (h : U32) (s : State) : Host.Outcome State Fault Refusal :=
  .next { s with signals := { s.signals with v := encodeHumidity h } }

/-- R180, NOTIFY_HUM: emitted in EVAL, on success only; in any other case `notify` stays NONE (log 7). -/
def execNotifyHum (v : U16) (s : State) : Host.Outcome State Fault Refusal :=
  if s.acqPhase = .eval ∧ s.signals.frameOk then .next (s.notify v) else .next s

end Sys2Proof.Machine
end

