-- ==== Sys2Proof/Machine/Dispatch.lean ====
section
/-! DEFINITION. The meaning of each operation, one arm per constructor of `Instr`. -/

namespace Sys2Proof.Machine

def exec (i : Instr) (s : State) : Host.Outcome State Fault Refusal :=
  match i with
  | .nop addr data => Sys2Proof.Machine.execNop addr data s
  | .humRead addr data => Sys2Proof.Machine.execHumRead addr data s
  | .cmdWrite addr data => Sys2Proof.Machine.execCmdWrite addr data s
  | .cmdWriteEmpty addr data => Sys2Proof.Machine.execCmdWriteEmpty addr data s
  | .diagRead addr data => Sys2Proof.Machine.execDiagRead addr data s
  | .rsv5 addr data => Sys2Proof.Machine.execRsv5 addr data s
  | .rsv6 addr data => Sys2Proof.Machine.execRsv6 addr data s
  | .rsv7 addr data => Sys2Proof.Machine.execRsv7 addr data s
  | .cmdOff => Sys2Proof.Machine.execCmdOff s
  | .cmdOn c => Sys2Proof.Machine.execCmdOn c s
  | .trigWrite => Sys2Proof.Machine.execTrigWrite s
  | .frameRead f => Sys2Proof.Machine.execFrameRead f s
  | .notifyHum v => Sys2Proof.Machine.execNotifyHum v s
  | .busReadyCheck => Sys2Proof.Machine.execBusReadyCheck s
  | .crc8 bs => Sys2Proof.Machine.execCrc8 bs s
  | .frameCheck => Sys2Proof.Machine.execFrameCheck s
  | .frameParse => Sys2Proof.Machine.execFrameParse s
  | .decodeT rawT => Sys2Proof.Machine.execDecodeT rawT s
  | .decodeRh rawRH => Sys2Proof.Machine.execDecodeRh rawRH s
  | .encode h => Sys2Proof.Machine.execEncode h s
  | .settleWait => Sys2Proof.Machine.execSettleWait s
  | .periodWait => Sys2Proof.Machine.execPeriodWait s

end Sys2Proof.Machine
end

