-- ==== Sys2Proof/Machine/Cycle.lean ====
section
/-! DEFINITION. One clock cycle (10_state.md R39). The host request, the Acquisition Loop and the Actuator Controller
step one after the other over one state; none of them reads an element that an earlier one of the same cycle wrote, so
each sees start-of-cycle values (log 5). -/

namespace Sys2Proof.Machine

/-- R39, R170: the host request of the cycle, fetched from the `hreq` pins and decoded (R83). -/
def hostStep (s : State) : Host.Outcome State Fault Refusal := exec (decodeHreq s.inputs.hreq) s

/-- R235, the success path of EVAL: parse, decode, encode, store, notify, end the iteration. -/
def evalAccepted (s : State) : Host.Outcome State Fault Refusal :=
  andThen (exec .frameParse s) fun s =>
  andThen (exec (.decodeT s.signals.rawT) s) fun s =>
  andThen (exec (.decodeRh s.signals.rawRH) s) fun s =>
  andThen (exec (.encode s.signals.h) s) fun s =>
  andThen (exec (.notifyHum s.signals.v) (s.commit s.signals.t s.signals.h s.signals.v)) fun s =>
    .next (s.endIter .ok)

/-- R235, phase EVAL: a frame that fails the check is discarded. -/
def evalPhase (s : State) : Host.Outcome State Fault Refusal :=
  andThen (exec .frameCheck s) fun s =>
    if s.signals.frameOk then evalAccepted s else .next (s.endIter .checksumMismatch)

/-- R234, phase RD: RD_DONE(1, f) latches the frame, RD_DONE(0, _) ends the iteration, anything else is ignored. -/
def awaitRead (s : State) : Host.Outcome State Fault Refusal :=
  match s.inputs.busRsp with
  | .rdDone true f => exec (.frameRead f) s
  | .rdDone false _ => .next (s.endIter .readFailed)
  | .none => .next s
  | .wrDone _ => .next s

/-- R230: exactly one phase rule, by ACQ_PHASE at the start of the cycle. In START the trigger write follows a
readiness check that did not end the iteration (R231). -/
def acqStep (s : State) : Host.Outcome State Fault Refusal :=
  match s.acqPhase with
  | .start => andThen (exec .busReadyCheck s) fun s => exec .trigWrite s
  | .wr => .next s.awaitWrite
  | .settle => exec .settleWait s
  | .rd => awaitRead s
  | .eval => evalPhase s
  | .sleep => exec .periodWait s

/-- R39: what a cycle does after its host request: the Acquisition Loop, the Actuator Controller, the merge of SLOT. -/
def restOfCycle (s : State) : Host.Outcome State Fault Refusal :=
  andThen (acqStep s) fun s => .next s.actStep.endCycle

/-- R39: one clock cycle. -/
def clockCycle (s : State) : Host.Outcome State Fault Refusal :=
  if s.inputs.rst then .next s.resetCycle else andThen (hostStep s.beginCycle) restOfCycle

/-- The pins of the present cycle: those listed, else the idle pins of R94 (log 14). -/
def State.listedPins (s : State) : Inputs := s.stimuli.headD Inputs.idle

/-- Puts `i` on the pins of the present cycle and keeps the later ones. -/
def State.drive (s : State) (i : Inputs) : State := { s with stimuli := i :: s.stimuli.tail }

/-- A pattern brought to where the next cycle takes it (log 14): an HREQ word to the `hreq` pins; a command byte into
the DATA of a CMD_WRITE (R85); the trigger write by the phase and the ready bus that make the sequencer perform it
(R231); a frame by the phase that waits for it and the RD_DONE(1) that brings it (R234). A notification is never
fetched. -/
def State.present (s : State) : PortWord → State
  | .hreq w => s.drive { s.listedPins with rst := false, hreq := w }
  | .cmdb c => s.drive { s.listedPins with rst := false, hreq := 0x4000#16 ||| c.setWidth 16 }
  | .busw _ => (s.drive { s.listedPins with rst := false, busReady := true }).goto .start
  | .busr w => (s.drive { s.listedPins with rst := false, busRsp := .rdDone true (Frame.ofBits w) }).goto .rd
  | .notif _ => s

end Sys2Proof.Machine
end

