-- ==== Sys2Proof/Machine/Step.lean ====
section
/-! DEFINITION. The step of the HBC: one clock cycle (10_state.md R39), and how a table word is brought to where the
next cycle takes it (log 14). -/

namespace Sys2Proof.Machine

/-- R39: one model step is one clock cycle. -/
def step (s : State) : Host.Outcome State Fault Refusal := clockCycle s

/-- `s` with the instruction of a table word where the next step takes it; a number that is no pattern of the table
changes nothing. -/
def State.withFetchWord (s : State) (nbits w : Nat) : State :=
  match tablePort nbits w with
  | some p => s.present p
  | none => s

end Sys2Proof.Machine
end

