-- ==== Sys2Proof/Machine/Script.lean ====
section
/-! DEFINITION. The stimulus scripts of 30_encoding.md R94 and the pseudo-instructions of R95: items by cycle, and the
input values they put on the pins. -/

namespace Sys2Proof.Machine

/-- R94, R95: one stimulus; `hreq` drives the raw word, the extension 95_test_vectors.md program P4 uses. -/
inductive ScriptItem where
  | nop
  | humRead
  | cmdWrite (c : Byte)
  | cmdWriteEmpty
  | diagRead (a : BitVec 5)
  | hreq (w : U16)
  | wrDone (ok : Bool)
  | rdOk (f : Frame)
  | rdFail
  | ready (level : Bool)
  | cmdOffPseudo
  | cmdOnPseudo
  deriving DecidableEq, Repr

/-- R94, R95: what one item does to the pins. R94 lets `RD_DONE fail` carry any bytes; that `rdFail` puts six zero bytes
there is the model's DESIGN CHOICE (log 27). No rule reads them (R110). -/
def ScriptItem.apply (i : Inputs) : ScriptItem → Inputs
  | .nop => { i with hreq := 0x0000#16 }
  | .humRead => { i with hreq := 0x2000#16 }
  | .cmdWrite c => { i with hreq := 0x4000#16 ||| c.setWidth 16 }
  | .cmdWriteEmpty => { i with hreq := 0x6000#16 }
  | .diagRead a => { i with hreq := 0x8000#16 ||| (a.setWidth 16 <<< 8) }
  | .hreq w => { i with hreq := w }
  | .wrDone ok => { i with busRsp := .wrDone ok }
  | .rdOk f => { i with busRsp := .rdDone true f }
  | .rdFail => { i with busRsp := .rdDone false ⟨0#8, 0#8, 0#8, 0#8, 0#8, 0#8⟩ }
  | .ready level => { i with busReady := level }
  | .cmdOffPseudo => { i with hreq := 0x4000#16 }
  | .cmdOnPseudo => { i with hreq := 0x4001#16 }

/-- R94: the inputs of cycle `k`, with the bus level the cycle before left: no host item is NOP, no bus item is NONE,
and `bus_ready` keeps its level until a READY line changes it. -/
def scriptInputs (script : List (Nat × ScriptItem)) (level : Bool) (k : Nat) : Inputs :=
  (script.filter (fun p => p.1 == k)).foldl (fun i p => p.2.apply i) { Inputs.idle with busReady := level }

/-- R94: the inputs of the `n` cycles from `k` on. -/
def scriptFrom (script : List (Nat × ScriptItem)) (level : Bool) (k : Nat) : Nat → List Inputs
  | 0 => []
  | n + 1 =>
    let i := scriptInputs script level k
    i :: scriptFrom script i.busReady (k + 1) n

/-- R94: the inputs of the first `n` cycles after reset is released; `bus_ready` is 1 from cycle 0. -/
def scriptStimuli (script : List (Nat × ScriptItem)) (n : Nat) : List Inputs := scriptFrom script true 0 n

end Sys2Proof.Machine
end

