-- ==== Sys2Proof/Safety.lean ====
section
/-! DEFINITION. The terms claims use: the invariants of 10_state.md R40, the reset values of 70_reset_and_hazards.md
R291, an outstanding bus request (40_bus_codec.md R110), the responses a phase accepts (R111), runs of the machine, and counts
along a run (43_actuator.md R208). -/

namespace Sys2Proof.Machine

/-- R40: `MEAS_RH is a binary32 value in [0, 100]`. -/
def humidityInRange (b : U32) : Prop := isFinite b = true ∧ 0 ≤ val32 b ∧ val32 b ≤ 100

/-- R40: the invariants over one state, and R10: each counter is below 2^width. -/
structure State.Inv (s : State) : Prop where
  acqWidth : s.acqCnt < 2 ^ Config.wAcq
  actWidth : s.actCnt < 2 ^ Config.wAct
  settleCount : s.acqPhase = .settle → 1 ≤ s.acqCnt ∧ s.acqCnt ≤ settleCycles
  sleepCount : s.acqPhase = .sleep → 1 ≤ s.acqCnt ∧ s.acqCnt ≤ periodCycles
  drivingLow : s.actState = .driving → s.out = false ∧ 1 ≤ s.actCnt ∧ s.actCnt ≤ dur .off
  idleHigh : s.actState = .idle → s.out = true
  tvRange : s.tv.toNat ≤ 10000
  humidityRange : humidityInRange s.measRH

/-- R291: the elements of RESET_STATE, read off a state, whatever its outputs and the model's own fields hold. -/
structure State.AtReset (s : State) : Prop where
  acqPhase : s.acqPhase = .start
  acqCnt : s.acqCnt = 0
  frame : s.frame = ⟨0x00#8, 0x00#8, 0x00#8, 0x00#8, 0x00#8, 0x00#8⟩
  measT : s.measT = 0x00000000#32
  measRH : s.measRH = 0x00000000#32
  tv : s.tv = 0x0000#16
  lastResult : s.lastResult = .none
  cmdLast : s.cmdLast = 0x00#8
  actState : s.actState = .idle
  actCnt : s.actCnt = 0
  actCmd : s.actCmd = .off
  slot : s.slot = ⟨false, .off⟩
  out : s.out = true

/-- R110: a request is outstanding in the phases that wait for its response. -/
def State.outstanding (s : State) : Bool := s.acqPhase == .wr || s.acqPhase == .rd

/-- R111: the response a phase accepts. -/
def State.accepts (s : State) : BusRsp → Bool
  | .none => false
  | .wrDone _ => s.acqPhase == .wr
  | .rdDone _ _ => s.acqPhase == .rd

/-- The state `n` cycles after `s`, where every cycle has a next state. -/
inductive Runs : State → Nat → State → Prop where
  | done (s : State) : Runs s 0 s
  | cycle {s t u : State} {n : Nat} : step s = .next t → Runs t n u → Runs s (n + 1) u

/-- No reset in the next `n` cycles. -/
def State.noReset (s : State) (n : Nat) : Prop := ∀ j < n, (s.inputAt j).rst = false

/-- R174: a cycle whose request is a CMD_WRITE. -/
def State.writesCommand (s : State) : Bool := !s.inputs.rst && hreqOp s.inputs.hreq == 0b010#3

/-- R202: a cycle that starts a sequence. -/
def State.startsPulse (s : State) : Bool := !s.inputs.rst && s.actState == .idle && s.slot.valid

/-- In how many of the next `n` cycles `p` holds at the cycle's start. -/
def countCycles (p : State → Bool) : Nat → State → Nat
  | 0, _ => 0
  | n + 1, s =>
    (if p s then 1 else 0) +
      match step s with
      | .next t => countCycles p n t
      | .fault _ => 0
      | .refused _ => 0

end Sys2Proof.Machine
end

