-- ==== Sys2Proof/Certificates/Slice0/Obligations.lean ====
section
/-! DEFINITION. The statements about the HBC, from the numbered rules of spec/. Each docstring names the rule. -/

open Sys2Proof Sys2Proof.Machine

/-! ### Encodings -/

/-- R83, R85, R87, R88: words written out from the encodings, with the vectors of 95_test_vectors.md V7. -/
def Obligations.WordsReadAsTheTablesSay : Prop :=
  decodeHreq 0b000_00000_11111111#16 = .nop 0#5 0xFF#8 ∧
  decodeHreq 0b001_11111_11111111#16 = .humRead 0x1F#5 0xFF#8 ∧
  decodeHreq 0b010_11111_00000111#16 = .cmdWrite 0x1F#5 0x07#8 ∧
  decodeHreq 0b011_00000_00000000#16 = .cmdWriteEmpty 0#5 0#8 ∧
  decodeHreq 0b100_00011_00000000#16 = .diagRead 0x03#5 0#8 ∧
  decodeHreq 0b101_00000_00000000#16 = .rsv5 0#5 0#8 ∧
  decodeHreq 0b110_00000_00000000#16 = .rsv6 0#5 0#8 ∧
  decodeHreq 0b111_00001_00100011#16 = .rsv7 0x01#5 0x23#8 ∧
  decode (.cmdb 0b00000000#8) = .instr .cmdOff ∧
  decode (.cmdb 0b10000000#8) = .instr (.cmdOn 0x80#8) ∧
  decode (.busw 0b0010_1100_0000_0110#16) = .instr .trigWrite ∧
  decode (.busr 0x6666938000A2#48) = .instr (.frameRead ⟨0x66#8, 0x66#8, 0x93#8, 0x80#8, 0x00#8, 0xA2#8⟩) ∧
  decode (.notif 0x1388#16) = .instr (.notifyHum 0x1388#16)

/-- R83: every HREQ word lies in the row of the operation it decodes to, and in no other row of the map. -/
def Obligations.HreqRowsSplitTheWordSpace : Prop :=
  ∀ w : U16, ∃ r, (decodeHreq w).tableRow = some r ∧ w.toNat &&& r.mask = r.matchBits ∧
    ∀ v : U16, ∀ r', (decodeHreq v).tableRow = some r' → w.toNat &&& r'.mask = r'.matchBits → r' = r

/-- R82, R83, R85, R87, R88, R89: decoding the encoding of a well-formed operation gives it back, with every operand at
every value. -/
def Obligations.DecodeOfEncodeIsTheOperation : Prop :=
  ∀ (i : Instr) (p : PortWord), i.wellFormed = true → encode i = some p → decode p = .instr i

/-- R82, R83, R85, R87, R88, R89: what a word decodes to is well formed and encodes to that word: no bit is dropped. -/
def Obligations.EncodeOfDecodeIsTheWord : Prop :=
  ∀ (p : PortWord) (i : Instr), decode p = .instr i → i.wellFormed = true ∧ encode i = some p

/-- R85: the command byte, its Command and the length of its sequence. -/
def Obligations.CommandByteDecodes : Prop :=
  (∀ c : Byte, decode (.cmdb c) = .instr (if c = 0x00#8 then .cmdOff else .cmdOn c)) ∧
  decodeCmd 0x00#8 = .off ∧ (∀ c : Byte, c ≠ 0x00#8 → decodeCmd c = .on) ∧
  dur .off = 3000 * Config.cpm ∧ dur .on = 1000 * Config.cpm

/-- R86, R90: the host's mapping of a payload to a request and of a value to the bytes on the air. -/
def Obligations.HostSideMappings : Prop :=
  decodeHreq (hreqOfPayload []) = .cmdWriteEmpty 0#5 0#8 ∧
  (∀ (c : Byte) (rest : List Byte), decodeHreq (hreqOfPayload (c :: rest)) = .cmdWrite 0#5 c) ∧
  (∀ v : U16, ∃ lo hi : Byte, airBytes v = [lo, hi] ∧ v = hi ++ lo) ∧ airBytes 4567#16 = [0xD7#8, 0x11#8]

/-! ### The step -/

/-- First clause, R39 and R170: in a cycle without reset, step runs the operation that the `hreq` pins decode to on the
state the cycle begins with, and then the rest of the cycle. The other two clauses are the model's choice: where
`withFetchWord` places an HREQ word or a command byte (log 14), that 0x2C06 is no HREQ word among the table's words
(log 13), and that a command byte runs on the state in which CMD_WRITE has answered 0 and latched CMD_LAST (log 23). The
table word 0x2C06 and the 48-bit frames are in `PlacedBusPatternsRunInTheSequencer`. -/
def Obligations.StepRunsTheDecodedRequest : Prop :=
  (∀ (s : State) (i : Instr), s.inputs.rst = false → decodeHreq s.inputs.hreq = i →
    step s = andThen (exec i s.beginCycle) restOfCycle) ∧
  (∀ (s : State) (w : Nat) (i : Instr), w < 2 ^ 16 → w ≠ 0x2C06 → decodeTableWord 16 w = some i →
    step (s.withFetchWord 16 w) = andThen (exec i (s.withFetchWord 16 w).beginCycle) restOfCycle) ∧
  (∀ (s : State) (c : Nat) (i : Instr), c < 2 ^ 8 → decodeTableWord 8 c = some i →
    step (s.withFetchWord 8 c) =
      andThen (exec i (((s.withFetchWord 8 c).beginCycle.respond 0#32).latchCommand (BitVec.ofNat 8 c))) restOfCycle)

/-- The model's choice (logs 13 and 14) of what the table's bus patterns run as, beside `StepRunsTheDecodedRequest`: after
the host request of the cycle, the loop runs TRIG_WRITE for 0x2C06, the readiness check having passed, and FRAME_READ
for a 48-bit frame. -/
def Obligations.PlacedBusPatternsRunInTheSequencer : Prop :=
  decodeTableWord 16 0x2C06 = some .trigWrite ∧
  (∀ s : State, ∃ h, hostStep (s.withFetchWord 16 0x2C06).beginCycle = .next h ∧ exec .busReadyCheck h = .next h ∧
    step (s.withFetchWord 16 0x2C06) = andThen (exec .trigWrite h) fun a => .next a.actStep.endCycle) ∧
  (∀ (s : State) (w : Nat) (i : Instr), w < 2 ^ 48 → decodeTableWord 48 w = some i →
    ∃ h, hostStep (s.withFetchWord 48 w).beginCycle = .next h ∧
      step (s.withFetchWord 48 w) = andThen (exec i h) fun a => .next a.actStep.endCycle)

/-- R93, R120, R230: which operations the sequencer runs in each phase; what it does with the results in EVAL is in the
statements about EVAL. How they are strung together is the model's choice: each is one `exec` (log 6); in START TRIG_WRITE
runs after a failed check too and, out of its phase then, changes nothing (log 7), so that the WRITE goes out in R231's
else branch alone; in EVAL the results pass on signals (logs 4 and 8). -/
def Obligations.SequencerRunsThePhaseOperations : Prop :=
  ∀ s : State,
    (s.acqPhase = .start → acqStep s = andThen (exec .busReadyCheck s) (exec .trigWrite)) ∧
    (s.acqPhase = .settle → acqStep s = exec .settleWait s) ∧
    (∀ f, s.acqPhase = .rd → s.inputs.busRsp = .rdDone true f → acqStep s = exec (.frameRead f) s) ∧
    (s.acqPhase = .sleep → acqStep s = exec .periodWait s) ∧
    (s.acqPhase = .eval → acqStep s = andThen (exec .frameCheck s) fun a =>
      if a.signals.frameOk then
        andThen (exec .frameParse a) fun b => andThen (exec (.decodeT b.signals.rawT) b) fun c =>
        andThen (exec (.decodeRh c.signals.rawRH) c) fun d => andThen (exec (.encode d.signals.h) d) fun e =>
        andThen (exec (.notifyHum e.signals.v)
          { e with measT := e.signals.t, measRH := e.signals.h, tv := e.signals.v }) fun g => .next (g.endIter .ok)
      else .next (a.endIter .checksumMismatch))

/-- From R39: the three agents, run one after the other in the model (log 5), do what the rule's parallel composition over
the start-of-cycle state does; and a cycle with reset gives RESET_STATE and the outputs of reset. What becomes of
`stimuli` and `cycle` is the model's choice (logs 1 and 2), since they are its own fields. -/
def Obligations.CycleIsTheParallelComposition : Prop :=
  ∀ s : State,
    (s.inputs.rst = true → ∃ t, step s = .next t ∧ t.AtReset ∧
      t.outputs = ⟨none, 0x00000000#32, none, none, true⟩) ∧
    (s.inputs.rst = false → ∃ t host acq act, step s = .next t ∧ hostStep s.beginCycle = .next host ∧
      acqStep s.beginCycle = .next acq ∧ s.beginCycle.actStep = act ∧
      t.acqPhase = acq.acqPhase ∧ t.acqCnt = acq.acqCnt ∧ t.frame = acq.frame ∧ t.measT = acq.measT ∧
      t.measRH = acq.measRH ∧ t.tv = acq.tv ∧ t.lastResult = acq.lastResult ∧ t.cmdLast = host.cmdLast ∧
      t.actState = act.actState ∧ t.actCnt = act.actCnt ∧ t.actCmd = act.actCmd ∧ t.out = act.out ∧
      t.slot = slotNext s.slot host.signals.slotSet act.signals.consume ∧
      t.outputs = ⟨acq.outputs.busReq, host.outputs.hrsp, acq.outputs.notify, acq.outputs.diag, s.out⟩ ∧
      t.stimuli = s.stimuli.tail ∧ t.cycle = s.cycle + 1)

/-- R81, R260: no operation and no cycle stops the machine. -/
def Obligations.NothingStopsTheMachine : Prop :=
  (∀ (i : Instr) (s : State), ∃ t, exec i s = .next t) ∧ (∀ s : State, ∃ t, step s = .next t) ∧
  (∀ (s : State) (n : Nat), ∃ t, Runs s n t)

/-! ### Reset -/

/-- R291, R292: the reset state, its STATUS and DIAG words, and a cycle with reset asserted. -/
def Obligations.ResetLeavesTheResetState : Prop :=
  State.reset.AtReset ∧ State.reset.status = 0x00000400#32 ∧
  (∀ a : BitVec 5, a ≠ 0#5 → State.reset.diagWord a = 0x00000000#32) ∧
  (∀ s : State, s.inputs.rst = true → ∃ t, step s = .next t ∧ t.AtReset ∧ t.outputs.busReq = none ∧
    t.outputs.notify = none ∧ t.outputs.diag = none ∧ t.outputs.hrsp = 0x00000000#32 ∧ t.outputs.actOut = true)

/-- R40: RESET_STATE meets the invariants. -/
def Obligations.ResetStateMeetsTheInvariants : Prop := State.reset.Inv

/-- R40: every cycle, with any inputs, keeps the invariants. -/
def Obligations.EveryStepKeepsTheInvariants : Prop :=
  ∀ s : State, s.Inv → ∃ t, step s = .next t ∧ t.Inv

/-- R27, R40: LAST_RESULT is NONE exactly until an iteration ends. -/
def Obligations.NoneLastsUntilAnIterationEnds : Prop :=
  ∀ s : State, s.inputs.rst = false → ∃ t, step s = .next t ∧
    (t.lastResult = .none ↔ s.lastResult = .none ∧ t.outputs.diag = none) ∧
    (∀ c, t.outputs.diag = some c → t.lastResult = c) ∧ (t.outputs.diag = none → t.lastResult = s.lastResult)

/-! ### Host operations -/

/-- R172, R175, R177: NOP, CMD_WRITE_EMPTY and the reserved opcodes answer 0 and change nothing else, whatever their
ignored fields hold. -/
def Obligations.RequestsWithoutEffectAnswerZero : Prop :=
  ∀ (w : U16) (s : State) (a : BitVec 5) (d : Byte),
    (hreqOp w = 0b000#3 → decodeHreq w = .nop (hreqAddr w) (hreqData w)) ∧
    (hreqOp w = 0b011#3 → decodeHreq w = .cmdWriteEmpty (hreqAddr w) (hreqData w)) ∧
    (hreqOp w = 0b101#3 → decodeHreq w = .rsv5 (hreqAddr w) (hreqData w)) ∧
    (hreqOp w = 0b110#3 → decodeHreq w = .rsv6 (hreqAddr w) (hreqData w)) ∧
    (hreqOp w = 0b111#3 → decodeHreq w = .rsv7 (hreqAddr w) (hreqData w)) ∧
    exec (.nop a d) s = .next { s with outputs := { s.outputs with hrsp := 0#32 } } ∧
    exec (.cmdWriteEmpty a d) s = .next { s with outputs := { s.outputs with hrsp := 0#32 } } ∧
    exec (.rsv5 a d) s = .next { s with outputs := { s.outputs with hrsp := 0#32 } } ∧
    exec (.rsv6 a d) s = .next { s with outputs := { s.outputs with hrsp := 0#32 } } ∧
    exec (.rsv7 a d) s = .next { s with outputs := { s.outputs with hrsp := 0#32 } }

/-- R173: HUM_READ answers the start-of-cycle TV and changes nothing else; in a cycle that writes TV it answers the old
value; over any run with no successful EVAL the value it answers stays, from reset on 0. -/
def Obligations.HumReadAnswersTv : Prop :=
  (∀ w : U16, hreqOp w = 0b001#3 → decodeHreq w = .humRead (hreqAddr w) (hreqData w)) ∧
  (∀ (s : State) (a : BitVec 5) (d : Byte),
    exec (.humRead a d) s = .next { s with outputs := { s.outputs with hrsp := BitVec.zeroExtend 32 s.tv } }) ∧
  (∀ s : State, s.inputs.rst = false → hreqOp s.inputs.hreq = 0b001#3 →
    ∃ t, step s = .next t ∧ t.outputs.hrsp = BitVec.zeroExtend 32 s.tv ∧
      (s.acqPhase ≠ .eval ∨ frameValid s.frame = false → t.tv = s.tv)) ∧
  (∀ (s : State) (n : Nat), s.noReset n →
    (∀ k < n, ∀ u, Runs s k u → ¬(u.acqPhase = .eval ∧ frameValid u.frame = true)) →
    ∃ u, Runs s n u ∧ u.tv = s.tv) ∧
  State.reset.tv = 0x0000#16

/-- R176, R36: DIAG_READ answers the DIAG word at ADDR, 0 at a reserved address, and changes nothing else; in the cycle
of a state change it answers from the old state. -/
def Obligations.DiagReadAnswersTheMap : Prop :=
  (∀ w : U16, hreqOp w = 0b100#3 → decodeHreq w = .diagRead (hreqAddr w) (hreqData w)) ∧
  (∀ (s : State) (a : BitVec 5) (d : Byte),
    ∃ w : U32, exec (.diagRead a d) s = .next { s with outputs := { s.outputs with hrsp := w } } ∧
      w = if a = 0x00#5 then s.status
        else if a = 0x01#5 then BitVec.zeroExtend 32 s.tv
        else if a = 0x02#5 then s.measT
        else if a = 0x03#5 then s.measRH
        else if a = 0x04#5 then BitVec.zeroExtend 32 s.cmdLast
        else 0x00000000#32) ∧
  (∀ s : State, s.inputs.rst = false → hreqOp s.inputs.hreq = 0b100#3 →
    ∃ t, step s = .next t ∧ t.outputs.hrsp = s.diagWord (hreqAddr s.inputs.hreq)) ∧
  State.reset.diagWord 0x00#5 = 0x00000400#32 ∧ State.reset.diagWord 0x02#5 = 0x00000000#32

/-- R35, with the codes of R21, R29, R31, R32 and R92: every bit of STATUS. -/
def Obligations.StatusBits : Prop :=
  (∀ s : State,
    s.status.extractLsb' 0 3 =
      (match s.lastResult with
        | .none => 0#3 | .ok => 1#3 | .busNotReady => 2#3 | .writeFailed => 3#3 | .readFailed => 4#3
        | .checksumMismatch => 5#3) ∧
    s.status.getLsbD 3 = false ∧
    s.status.extractLsb' 4 3 =
      (match s.acqPhase with
        | .start => 0#3 | .wr => 1#3 | .settle => 2#3 | .rd => 3#3 | .eval => 4#3 | .sleep => 5#3) ∧
    s.status.getLsbD 7 = false ∧
    s.status.getLsbD 8 = decide (s.actState = .driving) ∧
    s.status.getLsbD 9 = decide (s.actCmd = .on) ∧
    s.status.getLsbD 10 = s.out ∧
    s.status.getLsbD 11 = s.slot.valid ∧
    s.status.getLsbD 12 = decide (s.slot.cmd = .on) ∧
    s.status.extractLsb' 13 19 = 0#19) ∧
  State.reset.status = 0x00000400#32

/-- R174: CMD_WRITE, as an operation and in its cycle: CMD_LAST takes the byte, SLOT takes (1, decodeCmd c) for the next
cycle, the answer is 0, and as an operation it writes nothing else. -/
def Obligations.CommandWriteFillsTheSlot : Prop :=
  (∀ w : U16, hreqOp w = 0b010#3 → decodeHreq w = .cmdWrite (hreqAddr w) (hreqData w)) ∧
  (∀ (s : State) (a : BitVec 5) (c : Byte),
    exec (.cmdWrite a c) s = .next { s with
      cmdLast := c
      outputs := { s.outputs with hrsp := 0x00000000#32 }
      signals := { s.signals with slotSet := some (if c = 0x00#8 then .off else .on) } }) ∧
  (∀ s : State, s.inputs.rst = false → hreqOp s.inputs.hreq = 0b010#3 →
    ∃ t, step s = .next t ∧ t.cmdLast = hreqData s.inputs.hreq ∧ t.outputs.hrsp = 0x00000000#32 ∧
      t.slot = ⟨true, if hreqData s.inputs.hreq = 0x00#8 then .off else .on⟩)

/-- R85, log 23: the command byte's own effect is to ask for its sequence, and CMD_WRITE runs it on the state it has
answered from. That the effect stands apart from CMD_WRITE's is the model's choice (log 23). -/
def Obligations.CommandByteAsksForItsSequence : Prop :=
  ∀ s : State,
    exec .cmdOff s = .next { s with signals := { s.signals with slotSet := some .off } } ∧
    (∀ c : Byte, c ≠ 0x00#8 →
      exec (.cmdOn c) s = .next { s with signals := { s.signals with slotSet := some .on } }) ∧
    (∀ (a : BitVec 5) (c : Byte), exec (.cmdWrite a c) s =
      exec (decodeCmdb c) { s with cmdLast := c, outputs := { s.outputs with hrsp := 0x00000000#32 } })

/-- R67: a request other than CMD_WRITE leaves the whole next state as a NOP would, but for the answer; a CMD_WRITE
differs from a NOP in CMD_LAST and SLOT alone. -/
def Obligations.RequestsChangeOnlyWhatTheySay : Prop :=
  ∀ s : State, s.inputs.rst = false →
    ∃ t u, step s = .next t ∧ step (s.drive { s.inputs with hreq := 0x0000#16 }) = .next u ∧
      (hreqOp s.inputs.hreq ≠ 0b010#3 → { t with outputs := { t.outputs with hrsp := 0#32 } } = u) ∧
      (hreqOp s.inputs.hreq = 0b010#3 →
        t = { u with cmdLast := hreqData s.inputs.hreq, slot := ⟨true, decodeCmd (hreqData s.inputs.hreq)⟩ })

/-! ### The Acquisition Loop -/

/-- R231: BUS_READY_CHECK and TRIG_WRITE as operations, in START. -/
def Obligations.StartOperations : Prop :=
  ∀ s : State, s.acqPhase = .start →
    (s.inputs.busReady = false →
      exec .busReadyCheck s = .next { s with
        acqPhase := .sleep
        acqCnt := 1000 * Config.cpm
        lastResult := .busNotReady
        outputs := { s.outputs with diag := some .busNotReady } }) ∧
    (s.inputs.busReady = true → exec .busReadyCheck s = .next s) ∧
    (s.inputs.busReady = true →
      exec .trigWrite s = .next { s with
        acqPhase := .wr
        outputs := { s.outputs with busReq := some (.write Config.sensorAddr [0x2C#8, 0x06#8]) } })

/-- R231, R237: the START cycle, whatever `bus_rsp` carries; no other cycle of the iteration samples `bus_ready`. -/
def Obligations.StartCycle : Prop :=
  (∀ s : State, s.inputs.rst = false → s.acqPhase = .start →
    ∃ t, step s = .next t ∧ t.frame = s.frame ∧ t.measT = s.measT ∧ t.measRH = s.measRH ∧ t.tv = s.tv ∧
      t.outputs.notify = none ∧
      (s.inputs.busReady = true → t.acqPhase = .wr ∧ t.acqCnt = s.acqCnt ∧ t.lastResult = s.lastResult ∧
        t.outputs.busReq = some (.write Config.sensorAddr [0x2C#8, 0x06#8]) ∧ t.outputs.diag = none) ∧
      (s.inputs.busReady = false → t.acqPhase = .sleep ∧ t.acqCnt = 1000 * Config.cpm ∧
        t.lastResult = .busNotReady ∧ t.outputs.busReq = none ∧ t.outputs.diag = some .busNotReady)) ∧
  (∀ (s : State) (b : Bool), s.acqPhase ≠ .start →
    ∃ t, step s = .next t ∧ step (s.drive { s.inputs with busReady := b }) = .next t) ∧
  (∀ (s : State) (r : BusRsp), s.acqPhase = .start →
    ∃ t, step s = .next t ∧ step (s.drive { s.inputs with busRsp := r }) = .next t)

/-- R232, R237: the WR cycle, by the response on the pins. -/
def Obligations.WrCycle : Prop :=
  ∀ s : State, s.inputs.rst = false → s.acqPhase = .wr →
    ∃ t, step s = .next t ∧ t.frame = s.frame ∧ t.measT = s.measT ∧ t.measRH = s.measRH ∧ t.tv = s.tv ∧
      t.outputs.notify = none ∧ t.outputs.busReq = none ∧
      (s.inputs.busRsp = .wrDone true → t.acqPhase = .settle ∧ t.acqCnt = 20 * Config.cpm ∧
        t.lastResult = s.lastResult ∧ t.outputs.diag = none) ∧
      (s.inputs.busRsp = .wrDone false → t.acqPhase = .sleep ∧ t.acqCnt = 1000 * Config.cpm ∧
        t.lastResult = .writeFailed ∧ t.outputs.diag = some .writeFailed) ∧
      ((∀ ok, s.inputs.busRsp ≠ .wrDone ok) → t.acqPhase = .wr ∧ t.acqCnt = s.acqCnt ∧
        t.lastResult = s.lastResult ∧ t.outputs.diag = none)

/-- R233: SETTLE_WAIT as an operation, in SETTLE: the last cycle of the delay, and any other. With the counter at 0,
which R40 rules out, only that nothing but the counter changes is said (log 11). -/
def Obligations.SettleWaitCountsDown : Prop :=
  ∀ s : State, s.acqPhase = .settle →
    (s.acqCnt = 1 →
      exec .settleWait s = .next { s with
        acqPhase := .rd
        acqCnt := 0
        outputs := { s.outputs with busReq := some (.read Config.sensorAddr 6) } }) ∧
    (2 ≤ s.acqCnt → exec .settleWait s = .next { s with acqCnt := s.acqCnt - 1 }) ∧
    (s.acqCnt = 0 → ∃ n, exec .settleWait s = .next { s with acqCnt := n })

/-- R233: from any point of SETTLE with `n` cycles to run, the phase lasts exactly `n` cycles more, and the READ request
goes out in the last of them and in no earlier one. -/
def Obligations.SettlingDelayIsExact : Prop :=
  ∀ (s : State) (n : Nat), s.acqPhase = .settle → s.acqCnt = n → 1 ≤ n → s.noReset n →
    (∀ k < n, ∃ u, Runs s k u ∧ u.acqPhase = .settle ∧ u.acqCnt = n - k ∧
      (1 ≤ k → u.outputs.busReq = none)) ∧
    ∃ u, Runs s n u ∧ u.acqPhase = .rd ∧ u.outputs.busReq = some (.read Config.sensorAddr 6)

/-- R234: FRAME_READ as an operation, in RD. -/
def Obligations.FrameReadLatchesTheFrame : Prop :=
  ∀ (s : State) (f : Frame), s.acqPhase = .rd →
    exec (.frameRead f) s = .next { s with frame := f, acqPhase := .eval }

/-- R234, R237: the RD cycle, by the response on the pins; FRAME is not written on a failed read. -/
def Obligations.RdCycle : Prop :=
  ∀ s : State, s.inputs.rst = false → s.acqPhase = .rd →
    ∃ t, step s = .next t ∧ t.measT = s.measT ∧ t.measRH = s.measRH ∧ t.tv = s.tv ∧ t.outputs.notify = none ∧
      t.outputs.busReq = none ∧
      (∀ f, s.inputs.busRsp = .rdDone true f → t.acqPhase = .eval ∧ t.frame = f ∧ t.acqCnt = s.acqCnt ∧
        t.lastResult = s.lastResult ∧ t.outputs.diag = none) ∧
      (∀ f, s.inputs.busRsp = .rdDone false f → t.acqPhase = .sleep ∧ t.frame = s.frame ∧
        t.acqCnt = 1000 * Config.cpm ∧ t.lastResult = .readFailed ∧ t.outputs.diag = some .readFailed) ∧
      ((∀ ok f, s.inputs.busRsp ≠ .rdDone ok f) → t.acqPhase = .rd ∧ t.frame = s.frame ∧ t.acqCnt = s.acqCnt ∧
        t.lastResult = s.lastResult ∧ t.outputs.diag = none)

/-- R235, R119: the EVAL cycle: with both CRCs right, the Measurement and TV are written together, notified and the
iteration ends OK; otherwise nothing of the Measurement is written; with the example of the rule. -/
def Obligations.EvalCycle : Prop :=
  ∀ s : State, s.inputs.rst = false → s.acqPhase = .eval →
    ∃ t, step s = .next t ∧ t.acqPhase = .sleep ∧ t.acqCnt = 1000 * Config.cpm ∧ t.frame = s.frame ∧
      t.outputs.busReq = none ∧
      (if crc8 [s.frame.f0, s.frame.f1] = s.frame.f2 ∧ crc8 [s.frame.f3, s.frame.f4] = s.frame.f5 then
        t.measT = decodeTemperature (s.frame.f0 ++ s.frame.f1) ∧
        t.measRH = decodeHumidity (s.frame.f3 ++ s.frame.f4) ∧
        t.tv = encodeHumidity (decodeHumidity (s.frame.f3 ++ s.frame.f4)) ∧
        t.outputs.notify = some t.tv ∧ t.lastResult = .ok ∧ t.outputs.diag = some .ok
      else
        t.measT = s.measT ∧ t.measRH = s.measRH ∧ t.tv = s.tv ∧ t.outputs.notify = none ∧
        t.lastResult = .checksumMismatch ∧ t.outputs.diag = some .checksumMismatch) ∧
      (s.frame = ⟨0x66#8, 0x66#8, 0x93#8, 0x80#8, 0x00#8, 0xA2#8⟩ →
        t.measT = 0x41C80000#32 ∧ t.measRH = 0x424800C8#32 ∧ t.tv = 5000#16 ∧ t.outputs.notify = some 5000#16)

/-- R236: PERIOD_WAIT as an operation, in SLEEP: the last cycle of the wait, and any other. With the counter at 0, which
R40 rules out, only that nothing but the counter changes is said (log 11). -/
def Obligations.PeriodWaitCountsDown : Prop :=
  ∀ s : State, s.acqPhase = .sleep →
    (s.acqCnt = 1 → exec .periodWait s = .next { s with acqPhase := .start, acqCnt := 0 }) ∧
    (2 ≤ s.acqCnt → exec .periodWait s = .next { s with acqCnt := s.acqCnt - 1 }) ∧
    (s.acqCnt = 0 → ∃ n, exec .periodWait s = .next { s with acqCnt := n })

/-- R236, R237, R264: from the end of an iteration, with any code, SLEEP lasts exactly P cycles and START follows. -/
def Obligations.EveryIterationEndIsFollowedByTheGap : Prop :=
  ∀ s t : State, s.inputs.rst = false → step s = .next t → t.outputs.diag ≠ none →
    t.noReset (1000 * Config.cpm) →
    (∀ k < 1000 * Config.cpm, ∃ u, Runs t k u ∧ u.acqPhase = .sleep) ∧
    ∃ u, Runs t (1000 * Config.cpm) u ∧ u.acqPhase = .start

/-- R261: each error is raised in its phase by its cause and by nothing else, with its code recorded; R262: the last good
values stay and nothing is notified. FRAME changes by a read alone, and no host operation shows it. -/
def Obligations.ErrorsHaveTheirCauses : Prop :=
  ∀ s : State, s.inputs.rst = false →
    ∃ t, step s = .next t ∧
      (t.outputs.diag = some .busNotReady ↔ s.acqPhase = .start ∧ s.inputs.busReady = false) ∧
      (t.outputs.diag = some .writeFailed ↔ s.acqPhase = .wr ∧ s.inputs.busRsp = .wrDone false) ∧
      (t.outputs.diag = some .readFailed ↔ s.acqPhase = .rd ∧ ∃ f, s.inputs.busRsp = .rdDone false f) ∧
      (t.outputs.diag = some .checksumMismatch ↔ s.acqPhase = .eval ∧ frameValid s.frame = false) ∧
      (∀ e, t.outputs.diag = some e → e ≠ .ok →
        t.lastResult = e ∧ t.acqPhase = .sleep ∧ t.acqCnt = 1000 * Config.cpm ∧ t.frame = s.frame ∧
        t.measT = s.measT ∧ t.measRH = s.measRH ∧ t.tv = s.tv ∧ t.outputs.notify = none ∧
        t.outputs.busReq = none) ∧
      (t.frame ≠ s.frame → s.acqPhase = .rd ∧ s.inputs.busRsp = .rdDone true t.frame) ∧
      (∀ (w : U16) (f : Frame), ∃ a b, exec (decodeHreq w) s = .next a ∧
        exec (decodeHreq w) { s with frame := f } = .next b ∧ a.outputs = b.outputs) ∧
      Result.busNotReady.code = 2#3 ∧ Result.writeFailed.code = 3#3 ∧ Result.readFailed.code = 4#3 ∧
      Result.checksumMismatch.code = 5#3

/-- R87, R110: a WRITE goes out exactly in a START cycle with the bus ready and a READ exactly in the last SETTLE cycle,
always to SENSOR_ADDR, the WRITE always with 0x2C, 0x06 and the READ for 6 bytes; no request goes out while one is
outstanding, and one is outstanding after a request. -/
def Obligations.BusRequestsAreTheTwoOfTheSpec : Prop :=
  ∀ s : State, s.inputs.rst = false →
    ∃ t, step s = .next t ∧
      (∀ a bs, t.outputs.busReq = some (.write a bs) ↔
        (s.acqPhase = .start ∧ s.inputs.busReady = true) ∧ a = Config.sensorAddr ∧ bs = [0x2C#8, 0x06#8]) ∧
      (∀ a n, t.outputs.busReq = some (.read a n) ↔
        (s.acqPhase = .settle ∧ s.acqCnt = 1) ∧ a = Config.sensorAddr ∧ n = 6) ∧
      (t.outputs.busReq ≠ none → s.outstanding = false ∧ t.outstanding = true)

/-- R111: a response the phase does not wait for changes nothing: the step is the one with `bus_rsp = NONE`. -/
def Obligations.UnawaitedResponsesAreIgnored : Prop :=
  ∀ s : State, s.accepts s.inputs.busRsp = false →
    ∃ t, step s = .next t ∧ step (s.drive { s.inputs with busRsp := .none }) = .next t

/-- R242: while the awaited response does not come, the phase stays WR or RD, whatever else happens: no event of the
loop, no write of TV or of the Measurement. -/
def Obligations.UnansweredRequestHangsTheLoop : Prop :=
  ∀ (s : State) (n : Nat), s.outstanding = true → s.noReset n →
    (∀ j < n, s.accepts (s.inputAt j).busRsp = false) →
    ∃ u, Runs s n u ∧ u.acqPhase = s.acqPhase ∧ u.tv = s.tv ∧ u.measT = s.measT ∧ u.measRH = s.measRH ∧
      u.frame = s.frame ∧ u.lastResult = s.lastResult ∧
      (1 ≤ n → u.outputs.notify = none ∧ u.outputs.diag = none ∧ u.outputs.busReq = none)

/-- R238: a successful iteration with latencies Lw and Lr takes Lw + Lr + S + P + 2 cycles from START to START, and
leaves the value of its frame. -/
def Obligations.SuccessfulIterationPeriod : Prop :=
  ∀ (s : State) (lw lr : Nat) (f : Frame), s.acqPhase = .start → 1 ≤ lw → 1 ≤ lr → frameValid f = true →
    s.noReset (lw + lr + 20 * Config.cpm + 1000 * Config.cpm + 2) → s.inputs.busReady = true →
    (∀ j, 1 ≤ j → j < lw → ∀ ok, (s.inputAt j).busRsp ≠ .wrDone ok) → (s.inputAt lw).busRsp = .wrDone true →
    (∀ j, lw + 20 * Config.cpm < j → j < lw + 20 * Config.cpm + lr → ∀ ok g, (s.inputAt j).busRsp ≠ .rdDone ok g) →
    (s.inputAt (lw + 20 * Config.cpm + lr)).busRsp = .rdDone true f →
    (∀ k, 1 ≤ k → k < lw + lr + 20 * Config.cpm + 1000 * Config.cpm + 2 → ∃ u, Runs s k u ∧ u.acqPhase ≠ .start) ∧
    ∃ u, Runs s (lw + lr + 20 * Config.cpm + 1000 * Config.cpm + 2) u ∧ u.acqPhase = .start ∧
      u.lastResult = .ok ∧ u.tv = tvOf (f.f3 ++ f.f4) ∧ u.frame = f

/-- Log 7: an operation of the sequencer taken out of its phase changes nothing. The model's choice, read from R111 and
R230. -/
def Obligations.SequencerOperationsKeepToTheirPhase : Prop :=
  ∀ s : State,
    (s.acqPhase ≠ .start → exec .busReadyCheck s = .next s ∧ exec .trigWrite s = .next s) ∧
    (s.acqPhase ≠ .settle → exec .settleWait s = .next s) ∧
    (∀ f, s.acqPhase ≠ .rd → exec (.frameRead f) s = .next s) ∧
    (s.acqPhase ≠ .sleep → exec .periodWait s = .next s) ∧
    (∀ v, s.acqPhase ≠ .eval → exec (.notifyHum v) s = .next s)

/-! ### Codec and encoder -/

/-- R112, R114 to R117, R151: the codec's operations complete on every operand; each puts its result on its signal and
writes nothing else. That results stand on signals is the model's choice (logs 4 and 8). -/
def Obligations.CodecOperationsComplete : Prop :=
  ∀ s : State,
    (∀ bs, exec (.crc8 bs) s = .next { s with signals := { s.signals with crc := crc8 bs } }) ∧
    exec .frameCheck s = .next { s with signals := { s.signals with
      crc := crc8 [s.frame.f3, s.frame.f4]
      frameOk := decide (crc8 [s.frame.f0, s.frame.f1] = s.frame.f2 ∧ crc8 [s.frame.f3, s.frame.f4] = s.frame.f5) } } ∧
    exec .frameParse s = .next { s with signals := { s.signals with
      rawT := s.frame.f0 ++ s.frame.f1, rawRH := s.frame.f3 ++ s.frame.f4 } } ∧
    (∀ r, exec (.decodeT r) s = .next { s with signals := { s.signals with t := decodeTemperature r } }) ∧
    (∀ r, exec (.decodeRh r) s = .next { s with signals := { s.signals with h := decodeHumidity r } }) ∧
    (∀ h, exec (.encode h) s = .next { s with signals := { s.signals with v := encodeHumidity h } })

/-- R112: CRC8 by its recurrence, with the corner cases and the example of the rule. -/
def Obligations.CrcIsTheStatedRecurrence : Prop :=
  crc8 [] = 0xFF#8 ∧
  (∃ shift : Byte → Byte,
    (∀ c : Byte, shift c = if c.getLsbD 7 then (c <<< 1) ^^^ 0x31#8 else c <<< 1) ∧
    ∀ (bs : List Byte) (b : Byte), crc8 (bs ++ [b]) = Nat.iterate shift 8 (crc8 bs ^^^ b)) ∧
  crc8 [0x00#8, 0x00#8] = 0x81#8 ∧ crc8 [0xFF#8, 0xFF#8] = 0xAC#8 ∧ crc8 [0xFF#8, 0x00#8] = 0x00#8 ∧
  crc8 [0xBE#8, 0xEF#8] = 0x92#8

/-- R113 (b), (c), (d): a single-bit flip of a valid codeword, and of a valid frame, is always detected; the usual
vector. -/
def Obligations.EverySingleBitFlipIsDetected : Prop :=
  (∀ (d0 d1 : Byte) (k : Nat), k < 24 →
    let w : BitVec 24 := (d0 ++ d1 ++ crc8 [d0, d1]) ^^^ (1#24 <<< k)
    crc8 [w.extractLsb' 16 8, w.extractLsb' 8 8] ≠ w.extractLsb' 0 8) ∧
  (∀ (f : Frame) (k : Nat), frameValid f = true → k < 48 →
    frameValid (Frame.ofBits (f.toBits ^^^ (1#48 <<< k))) = false) ∧
  crc8 [0xBE#8, 0xEF#8] = 0x92#8

/-- R114: FRAME_CHECK needs both words' CRCs; the corner cases and examples of the rule. -/
def Obligations.FrameCheckNeedsBothCrcs : Prop :=
  (∀ f : Frame, frameValid f = true ↔ crc8 [f.f0, f.f1] = f.f2 ∧ crc8 [f.f3, f.f4] = f.f5) ∧
  frameValid ⟨0x00#8, 0x00#8, 0x00#8, 0x00#8, 0x00#8, 0x00#8⟩ = false ∧
  frameValid ⟨0xFF#8, 0xFF#8, 0xFF#8, 0xFF#8, 0xFF#8, 0xFF#8⟩ = false ∧
  frameValid ⟨0xFF#8, 0x00#8, 0x00#8, 0xFF#8, 0x00#8, 0x00#8⟩ = true ∧
  frameValid ⟨0x66#8, 0x66#8, 0x93#8, 0x80#8, 0x00#8, 0xA2#8⟩ = true ∧
  frameValid ⟨0x66#8, 0x66#8, 0x93#8, 0x80#8, 0x01#8, 0xA2#8⟩ = false

/-- R116, R11: DECODE_T is a finite binary32 at least as near to −45 + 175·rawT/65535 as any other, even on a tie; its
range and corner cases. -/
def Obligations.TemperatureIsTheNearestBinary32 : Prop :=
  (∀ r : U16,
    let b := decodeTemperature r
    let q : ℚ := -45 + 175 * r.toNat / 65535
    isFinite b = true ∧ 1 ≤ expField b ∧ -45 ≤ val32 b ∧ val32 b ≤ 130 ∧ val32 b ≠ 0 ∧
    ∀ c : U32, isFinite c = true →
      |val32 b - q| ≤ |val32 c - q| ∧ (|val32 b - q| = |val32 c - q| → val32 c = val32 b ∨ fracField b % 2 = 0)) ∧
  decodeTemperature 0x0000#16 = 0xC2340000#32 ∧ decodeTemperature 0xFFFF#16 = 0x43020000#32 ∧
  decodeTemperature 0x6666#16 = 0x41C80000#32 ∧ decodeTemperature 0xBEEF#16 = 0x42AB0BC7#32

/-- R117, R11: DECODE_RH is a finite binary32 at least as near to 100·rawRH/65535 as any other, even on a tie; its range
and corner cases. -/
def Obligations.HumidityIsTheNearestBinary32 : Prop :=
  (∀ r : U16,
    let b := decodeHumidity r
    let q : ℚ := 100 * r.toNat / 65535
    isFinite b = true ∧ 0 ≤ val32 b ∧ val32 b ≤ 100 ∧ (val32 b = 0 ↔ r = 0x0000#16) ∧
    ∀ c : U32, isFinite c = true →
      |val32 b - q| ≤ |val32 c - q| ∧ (|val32 b - q| = |val32 c - q| → val32 c = val32 b ∨ fracField b % 2 = 0)) ∧
  decodeHumidity 0x0000#16 = 0x00000000#32 ∧ decodeHumidity 0xFFFF#16 = 0x42C80000#32 ∧
  decodeHumidity 0x8000#16 = 0x424800C8#32 ∧ decodeHumidity 0x3333#16 = 0x41A00000#32 ∧
  decodeHumidity 0x6666#16 = 0x42200000#32 ∧ decodeHumidity 0x431C#16 = 0x41D1B852#32

/-- R151, R152, R153: ENCODE on every pattern: the nearest integer to the exact product, ties away from zero, mod 2^16;
ENC_NONFINITE for a NaN or an infinity; what DECODE_RH delivers is finite and in range; the examples of the rules. -/
def Obligations.EncodeRoundsTheExactProduct : Prop :=
  (∀ h : U32, isFinite h = true → encodeHumidity h = BitVec.ofInt 16
    (if val32 h < 0 then -⌊-(val32 h * 100) + 1 / 2⌋ else ⌊val32 h * 100 + 1 / 2⌋)) ∧
  (∀ h : U32, expField h = 0xFF → encodeHumidity h = Config.encNonfinite) ∧
  (∀ r : U16, isFinite (decodeHumidity r) = true ∧ 0 ≤ val32 (decodeHumidity r) ∧ val32 (decodeHumidity r) ≤ 100) ∧
  encodeHumidity 0x80000000#32 = 0#16 ∧ encodeHumidity 0x3E000000#32 = 13#16 ∧
  encodeHumidity 0x4236AE14#32 = 4567#16 ∧ encodeHumidity 0xBF000000#32 = 65486#16 ∧
  encodeHumidity 0xBF800000#32 = 65436#16 ∧ encodeHumidity 0x4423D666#32 = 65535#16 ∧
  encodeHumidity 0x4423D70A#32 = 0#16 ∧ encodeHumidity 0x442F0000#32 = 4464#16

/-- R154: TV on the HBC's own path: in range, so that the mod 2^16 never acts, non-decreasing, and the ideal value but
for the eight raw words, with the table's patterns and values. -/
def Obligations.TelemetryOnTheOwnPath : Prop :=
  (∀ r : U16, (tvOf r).toNat ≤ 10000 ∧ ((tvOf r).toNat : ℤ) = ⌊val32 (decodeHumidity r) * 100 + 1 / 2⌋) ∧
  (∀ r q : U16, r.toNat ≤ q.toNat → (tvOf r).toNat ≤ (tvOf q).toNat) ∧
  (∀ r : U16, r.toNat ∉ [17180, 22141, 25326, 27102, 30287, 35248, 38433, 40209] →
    (tvOf r).toNat = (20000 * r.toNat + 65535) / 131070) ∧
  tvOf 17180#16 = 2622#16 ∧ tvOf 22141#16 = 3378#16 ∧ tvOf 25326#16 = 3865#16 ∧ tvOf 27102#16 = 4135#16 ∧
  tvOf 30287#16 = 4622#16 ∧ tvOf 35248#16 = 5378#16 ∧ tvOf 38433#16 = 5865#16 ∧ tvOf 40209#16 = 6135#16 ∧
  decodeHumidity 17180#16 = 0x41D1B852#32 ∧ decodeHumidity 22141#16 = 0x420723D7#32 ∧
  decodeHumidity 25326#16 = 0x421A947B#32 ∧ decodeHumidity 27102#16 = 0x42256B85#32 ∧
  decodeHumidity 30287#16 = 0x4238DC29#32 ∧ decodeHumidity 35248#16 = 0x425723D7#32 ∧
  decodeHumidity 38433#16 = 0x426A947B#32 ∧ decodeHumidity 40209#16 = 0x42756B85#32

/-- R155: on the HBC's path the product is never a half-integer. -/
def Obligations.ProductIsNeverAHalfInteger : Prop :=
  ∀ (r : U16) (k : ℤ), val32 (decodeHumidity r) * 100 ≠ k + 1 / 2

/-- R156: the source's round-trip vectors and the two ends of the range. -/
def Obligations.RoundTripVectors : Prop :=
  encodeHumidity 0x4236AE14#32 = 4567#16 ∧ encodeHumidity 0x00000000#32 = 0#16 ∧
  encodeHumidity 0x42C80000#32 = 10000#16 ∧ tvOf 0x0000#16 = 0#16 ∧ tvOf 0xFFFF#16 = 10000#16

/-- R180: NOTIFY_HUM as an operation, in EVAL after a passed check. -/
def Obligations.NotifyHumStrobes : Prop :=
  ∀ (s : State) (v : U16), s.acqPhase = .eval → s.signals.frameOk = true →
    exec (.notifyHum v) s = .next { s with outputs := { s.outputs with notify := some v } }

/-- R180: a cycle notifies exactly when it is an EVAL cycle whose frame passes, once, with the TV value it writes; no
other cycle notifies. -/
def Obligations.NotifyExactlyOnSuccess : Prop :=
  ∀ s : State, s.inputs.rst = false →
    ∃ t, step s = .next t ∧
      (∀ v, t.outputs.notify = some v ↔
        s.acqPhase = .eval ∧ frameValid s.frame = true ∧ v = tvOf (s.frame.f3 ++ s.frame.f4)) ∧
      (∀ v, t.outputs.notify = some v → t.tv = v) ∧
      (t.outputs.notify ≠ none ↔ t.outputs.diag = some .ok)

/-! ### The Actuator Controller -/

/-- R202, R204: the cycle in IDLE. -/
def Obligations.IdleCycleStartsThePulse : Prop :=
  ∀ s : State, s.inputs.rst = false → s.actState = .idle →
    ∃ t, step s = .next t ∧ t.outputs.actOut = s.out ∧
      (s.slot.valid = true → t.actState = .driving ∧ t.out = false ∧ t.actCmd = s.slot.cmd ∧
        t.actCnt = (match s.slot.cmd with | .off => 3000 * Config.cpm | .on => 1000 * Config.cpm)) ∧
      (s.slot.valid = false → t.actState = .idle ∧ t.out = s.out ∧ t.actCmd = s.actCmd ∧ t.actCnt = s.actCnt)

/-- R203: the cycle in DRIVING, whatever SLOT and the inputs hold; SLOT is not consumed. -/
def Obligations.DrivingCycleHoldsOrEnds : Prop :=
  ∀ s : State, s.inputs.rst = false → s.actState = .driving →
    ∃ t, step s = .next t ∧ t.outputs.actOut = s.out ∧ t.actCmd = s.actCmd ∧
      (s.actCnt = 1 → t.actState = .idle ∧ t.out = true ∧ t.actCnt = 0) ∧
      (s.actCnt ≠ 1 → t.actState = .driving ∧ t.out = s.out) ∧ (2 ≤ s.actCnt → t.actCnt = s.actCnt - 1) ∧
      (hreqOp s.inputs.hreq ≠ 0b010#3 → t.slot = s.slot)

/-- R205: SLOT after a cycle: a write wins; else a consume clears the valid bit and keeps the command; else SLOT stays.
Where a write and a consume fall in one cycle, the sequence of the old pending command starts. -/
def Obligations.SlotMerge : Prop :=
  ∀ s : State, s.inputs.rst = false →
    ∃ t, step s = .next t ∧
      (t.slot =
        if hreqOp s.inputs.hreq = 0b010#3 then ⟨true, if hreqData s.inputs.hreq = 0x00#8 then .off else .on⟩
        else if s.actState = .idle ∧ s.slot.valid = true then ⟨false, s.slot.cmd⟩
        else s.slot) ∧
      (hreqOp s.inputs.hreq = 0b010#3 → s.actState = .idle → s.slot.valid = true →
        t.actState = .driving ∧ t.actCmd = s.slot.cmd)

/-- R206, R210: a sequence started in a cycle drives the line low in exactly the next D cycles, whatever is written
meanwhile, and then leaves it idle; a CMD_WRITE to an idle controller with an empty slot does so one cycle later. -/
def Obligations.PulseTiming : Prop :=
  (∀ s : State, s.actState = .idle → s.slot.valid = true → s.noReset (dur s.slot.cmd + 1) →
    (∀ k, 1 ≤ k → k ≤ dur s.slot.cmd → ∃ u, Runs s k u ∧ u.out = false ∧ u.actState = .driving) ∧
    ∃ u, Runs s (dur s.slot.cmd + 1) u ∧ u.out = true ∧ u.actState = .idle) ∧
  (∀ (s : State) (c : Command), s.actState = .idle → s.slot.valid = false → hreqOp s.inputs.hreq = 0b010#3 →
    c = decodeCmd (hreqData s.inputs.hreq) → s.noReset (dur c + 2) →
    (∃ u, Runs s 1 u ∧ u.out = s.out) ∧
    (∀ k, 2 ≤ k → k ≤ dur c + 1 → ∃ u, Runs s k u ∧ u.out = false) ∧
    ∃ u, Runs s (dur c + 2) u ∧ u.out = true)

/-- R207: a command pending while a pulse runs starts in the first cycle after it: one cycle at the idle level between
the pulses, with the pending command's own duration. -/
def Obligations.PendingCommandWaitsForThePulse : Prop :=
  ∀ (s : State) (n : Nat), s.actState = .driving → s.actCnt = n → 1 ≤ n → s.slot.valid = true →
    s.noReset (n + 1) → (∀ j < n, hreqOp (s.inputAt j).hreq ≠ 0b010#3) →
    (∀ k < n, ∃ u, Runs s k u ∧ u.actState = .driving ∧ u.actCmd = s.actCmd ∧ u.out = s.out ∧ u.slot = s.slot) ∧
    (∃ u, Runs s n u ∧ u.actState = .idle ∧ u.out = true ∧ u.slot = s.slot) ∧
    ∃ v, Runs s (n + 1) v ∧ v.actState = .driving ∧ v.out = false ∧ v.actCmd = s.slot.cmd ∧
      v.actCnt = dur s.slot.cmd

/-- R208: over any run, the pulses started are at most the CMD_WRITEs, plus the command pending at its start. -/
def Obligations.PulsesAreAtMostTheCommandWrites : Prop :=
  ∀ (s : State) (n : Nat),
    countCycles State.startsPulse n s ≤
      countCycles State.writesCommand n s + (if s.slot.valid then 1 else 0)

/-- R243, R263: the loop and the actuator read nothing of each other or of the host port: next cycle's loop elements
depend on loop elements and the bus pins alone, and next cycle's actuator elements on actuator elements and SLOT
alone. -/
def Obligations.LoopAndActuatorAreIndependent : Prop :=
  (∀ s s' : State, s.inputs.rst = false → s'.inputs.rst = false → s.acqPhase = s'.acqPhase → s.acqCnt = s'.acqCnt →
    s.frame = s'.frame → s.measT = s'.measT → s.measRH = s'.measRH → s.tv = s'.tv → s.lastResult = s'.lastResult →
    s.inputs.busReady = s'.inputs.busReady → s.inputs.busRsp = s'.inputs.busRsp →
    ∃ t t', step s = .next t ∧ step s' = .next t' ∧ t.acqPhase = t'.acqPhase ∧ t.acqCnt = t'.acqCnt ∧
      t.frame = t'.frame ∧ t.measT = t'.measT ∧ t.measRH = t'.measRH ∧ t.tv = t'.tv ∧ t.lastResult = t'.lastResult ∧
      t.outputs.busReq = t'.outputs.busReq ∧ t.outputs.notify = t'.outputs.notify ∧
      t.outputs.diag = t'.outputs.diag) ∧
  (∀ s s' : State, s.inputs.rst = false → s'.inputs.rst = false → s.actState = s'.actState → s.actCnt = s'.actCnt →
    s.actCmd = s'.actCmd → s.slot = s'.slot → s.out = s'.out →
    ∃ t t', step s = .next t ∧ step s' = .next t' ∧ t.actState = t'.actState ∧ t.actCnt = t'.actCnt ∧
      t.actCmd = t'.actCmd ∧ t.out = t'.out)
end

