-- ==== Sys2Proof/Laws/Binary32.lean ====
section
/-! SUPPORT. Forms of the codec's arithmetic that compute fast, each proved equal to the definition over exact
rationals: with them a claim about all 65536 raw words can be computed on natural numbers. -/

namespace Sys2Proof.Machine

/-- Rounding depends on the quotient alone. -/
theorem roundHalfEven_scale {c : Nat} (hc : 0 < c) (n d : Nat) :
    roundHalfEven (c * n) (c * d) = roundHalfEven n d := by
  have h1 : ∀ a b : Nat, (2 * (c * a) < c * b) ↔ (2 * a < b) := fun a b => by
    rw [show 2 * (c * a) = c * (2 * a) by ring]
    exact Nat.mul_lt_mul_left hc
  have h2 : ∀ a b : Nat, (c * b < 2 * (c * a)) ↔ (b < 2 * a) := fun a b => by
    rw [show 2 * (c * a) = c * (2 * a) by ring]
    exact Nat.mul_lt_mul_left hc
  simp only [roundHalfEven, Nat.mul_mod_mul_left, Nat.mul_div_mul_left _ _ hc, h1, h2]

/-- So does the binary32 pattern. -/
theorem rneMagnitude_scale {c : Nat} (hc : 0 < c) (n d : Nat) : rneMagnitude (c * n) (c * d) = rneMagnitude n d := by
  simp only [rneMagnitude, Nat.mul_assoc c, Nat.mul_div_mul_left _ _ hc, roundHalfEven_scale hc]

/-- A fraction of integers, and its numerator and denominator in lowest terms. -/
theorem exists_scale (n : Int) {d : Nat} (hd : 0 < d) :
    ∃ c : Nat, 0 < c ∧ n = c * ((n : ℚ) / d).num ∧ d = c * ((n : ℚ) / d).den := by
  obtain ⟨c, h1, h2⟩ := Rat.exists_eq_mul_div_num_and_eq_mul_div_den n (d := (d : Int)) (by omega)
  have hden : (0 : Int) < (((n : ℚ) / ((d : Int) : ℚ)).den : Int) := by exact_mod_cast Rat.den_pos _
  have hc : 0 < c := by
    by_contra h
    have : c * (((n : ℚ) / ((d : Int) : ℚ)).den : Int) ≤ 0 := Int.mul_nonpos_of_nonpos_of_nonneg (by omega) (by omega)
    omega
  refine ⟨c.toNat, by omega, ?_, ?_⟩
  · rw [Int.toNat_of_nonneg hc.le]
    simpa using h1
  · have : (d : Int) = (c.toNat : Int) * (((n : ℚ) / (d : ℚ)).den : Int) := by
      rw [Int.toNat_of_nonneg hc.le]
      simpa using h2
    exact_mod_cast this

/-- R11: `rne32` of a fraction that need not be in lowest terms. -/
theorem rne32_div (n : Int) {d : Nat} (hd : 0 < d) :
    rne32 ((n : ℚ) / d) = BitVec.ofBool (n < 0) ++ BitVec.ofNat 31 (rneMagnitude n.natAbs d) := by
  obtain ⟨c, hc, hn, hd'⟩ := exists_scale n hd
  have hs : ((n : ℚ) / d).num < 0 ↔ n < 0 := by
    constructor
    · intro h
      rw [hn]
      exact Int.mul_neg_of_pos_of_neg (by omega) h
    · intro h
      by_contra h0
      have : (0 : Int) ≤ c * ((n : ℚ) / d).num := Int.mul_nonneg (by omega) (by omega)
      omega
  have hm : rneMagnitude n.natAbs d = rneMagnitude ((n : ℚ) / d).num.natAbs ((n : ℚ) / d).den := by
    have hn' : n.natAbs = c * ((n : ℚ) / d).num.natAbs := by
      conv_lhs => rw [hn, Int.natAbs_mul, Int.natAbs_natCast]
    generalize ((n : ℚ) / d).num.natAbs = a at *
    generalize ((n : ℚ) / d).den = b at *
    rw [hn', hd', rneMagnitude_scale hc]
  rw [hm]
  simp only [rne32, hs]

/-- R11: `roundHalfAway` of a fraction that need not be in lowest terms. -/
theorem roundHalfAway_div (n : Int) {d : Nat} (hd : 0 < d) :
    roundHalfAway ((n : ℚ) / d) = n.sign * ((2 * n.natAbs + d) / (2 * d) : Nat) := by
  obtain ⟨c, hc, hn, hd'⟩ := exists_scale n hd
  have hsign : n.sign = ((n : ℚ) / d).num.sign := by
    conv_lhs => rw [hn]
    rw [Int.sign_mul, Int.sign_eq_one_of_pos (by omega), one_mul]
  have hq : (2 * n.natAbs + d) / (2 * d) =
      (2 * ((n : ℚ) / d).num.natAbs + ((n : ℚ) / d).den) / (2 * ((n : ℚ) / d).den) := by
    have hn' : n.natAbs = c * ((n : ℚ) / d).num.natAbs := by
      conv_lhs => rw [hn, Int.natAbs_mul, Int.natAbs_natCast]
    generalize ((n : ℚ) / d).num.natAbs = a at *
    generalize ((n : ℚ) / d).den = b at *
    rw [hn', hd', show 2 * (c * a) + c * b = c * (2 * a + b) by ring, show 2 * (c * b) = c * (2 * b) by ring,
      Nat.mul_div_mul_left _ _ hc]
  rw [hsign, hq]
  rfl

/-- R116 on natural numbers. -/
theorem decodeTemperature_eq (rawT : U16) :
    decodeTemperature rawT = BitVec.ofBool (175 * (rawT.toNat : Int) - 2949075 < 0) ++
      BitVec.ofNat 31 (rneMagnitude (175 * (rawT.toNat : Int) - 2949075).natAbs 65535) := by
  rw [← rne32_div _ (by decide), decodeTemperature]
  congr 1
  push_cast
  ring

/-- R117 on natural numbers. -/
theorem decodeHumidity_eq (rawRH : U16) :
    decodeHumidity rawRH = BitVec.ofNat 32 (rneMagnitude (100 * rawRH.toNat) 65535) := by
  have h : decodeHumidity rawRH = rne32 (((100 * rawRH.toNat : Nat) : Int) / (65535 : Nat)) := by
    rw [decodeHumidity]
    push_cast
    rfl
  have hlt : rneMagnitude (100 * rawRH.toNat) 65535 < 2 ^ 31 :=
    Nat.lt_of_le_of_lt (Nat.min_le_right _ _) (by decide)
  rw [h, rne32_div _ (by decide)]
  have hneg : ¬ (((100 * rawRH.toNat : Nat) : Int) < 0) := by omega
  simp only [hneg, decide_false, Int.natAbs_natCast]
  apply BitVec.eq_of_toNat_eq
  rw [BitVec.toNat_append, BitVec.toNat_ofNat, BitVec.toNat_ofNat, Nat.mod_eq_of_lt hlt,
    Nat.mod_eq_of_lt (Nat.lt_trans hlt (by decide : 2 ^ 31 < 2 ^ 32))]
  simp

/-- R151 on integers, for a finite pattern. -/
theorem encodeHumidity_eq (h : U32) (hf : isFinite h = true) :
    encodeHumidity h = BitVec.ofInt 16
      ((if h.msb then -1 else 1) * ((200 * magUnits h + 2 ^ 149) / (2 * 2 ^ 149) : Nat)) := by
  have hv : val32 h * 100 = (((if h.msb then -1 else 1) * (100 * magUnits h : Nat) : Int) : ℚ) / (2 ^ 149 : Nat) := by
    rw [val32]
    push_cast
    ring
  rw [encodeHumidity, if_pos hf, hv, roundHalfAway_div _ (by positivity)]
  congr 1
  rcases Nat.eq_zero_or_pos (magUnits h) with h0 | h0
  · simp [h0]
  · have hpos : (0 : Int) < ((100 * magUnits h : Nat) : Int) := by omega
    split
    · rw [Int.sign_mul, Int.natAbs_mul, Int.natAbs_natCast, Int.sign_eq_one_of_pos hpos]
      norm_num
      ring_nf
    · rw [Int.sign_mul, Int.natAbs_mul, Int.natAbs_natCast, Int.sign_eq_one_of_pos hpos]
      norm_num
      ring_nf

end Sys2Proof.Machine
end

