-- ==== Sys2Proof/Laws/State.lean ====
section
/-! SUPPORT. What each named update of the state does to each field: one lemma per field per update, true by rfl. -/

namespace Sys2Proof.Machine.State

variable (s : State)

/-! ### beginCycle -/

@[simp] theorem beginCycle_acqPhase : (s.beginCycle).acqPhase = s.acqPhase := rfl
@[simp] theorem beginCycle_acqCnt : (s.beginCycle).acqCnt = s.acqCnt := rfl
@[simp] theorem beginCycle_frame : (s.beginCycle).frame = s.frame := rfl
@[simp] theorem beginCycle_measT : (s.beginCycle).measT = s.measT := rfl
@[simp] theorem beginCycle_measRH : (s.beginCycle).measRH = s.measRH := rfl
@[simp] theorem beginCycle_tv : (s.beginCycle).tv = s.tv := rfl
@[simp] theorem beginCycle_lastResult : (s.beginCycle).lastResult = s.lastResult := rfl
@[simp] theorem beginCycle_cmdLast : (s.beginCycle).cmdLast = s.cmdLast := rfl
@[simp] theorem beginCycle_actState : (s.beginCycle).actState = s.actState := rfl
@[simp] theorem beginCycle_actCnt : (s.beginCycle).actCnt = s.actCnt := rfl
@[simp] theorem beginCycle_actCmd : (s.beginCycle).actCmd = s.actCmd := rfl
@[simp] theorem beginCycle_slot : (s.beginCycle).slot = s.slot := rfl
@[simp] theorem beginCycle_out : (s.beginCycle).out = s.out := rfl
@[simp] theorem beginCycle_outputs : (s.beginCycle).outputs = ⟨none, 0x00000000#32, none, none, s.out⟩ := rfl
@[simp] theorem beginCycle_signals : (s.beginCycle).signals = Signals.clear := rfl
@[simp] theorem beginCycle_stimuli : (s.beginCycle).stimuli = s.stimuli := rfl
@[simp] theorem beginCycle_cycle : (s.beginCycle).cycle = s.cycle := rfl
@[simp] theorem beginCycle_inputAt (j : Nat) : (s.beginCycle).inputAt j = s.inputAt j := rfl
@[simp] theorem beginCycle_inputs : (s.beginCycle).inputs = s.inputs := rfl

/-! ### respond -/

@[simp] theorem respond_acqPhase (w : U32) : (s.respond w).acqPhase = s.acqPhase := rfl
@[simp] theorem respond_acqCnt (w : U32) : (s.respond w).acqCnt = s.acqCnt := rfl
@[simp] theorem respond_frame (w : U32) : (s.respond w).frame = s.frame := rfl
@[simp] theorem respond_measT (w : U32) : (s.respond w).measT = s.measT := rfl
@[simp] theorem respond_measRH (w : U32) : (s.respond w).measRH = s.measRH := rfl
@[simp] theorem respond_tv (w : U32) : (s.respond w).tv = s.tv := rfl
@[simp] theorem respond_lastResult (w : U32) : (s.respond w).lastResult = s.lastResult := rfl
@[simp] theorem respond_cmdLast (w : U32) : (s.respond w).cmdLast = s.cmdLast := rfl
@[simp] theorem respond_actState (w : U32) : (s.respond w).actState = s.actState := rfl
@[simp] theorem respond_actCnt (w : U32) : (s.respond w).actCnt = s.actCnt := rfl
@[simp] theorem respond_actCmd (w : U32) : (s.respond w).actCmd = s.actCmd := rfl
@[simp] theorem respond_slot (w : U32) : (s.respond w).slot = s.slot := rfl
@[simp] theorem respond_out (w : U32) : (s.respond w).out = s.out := rfl
@[simp] theorem respond_outputs (w : U32) : (s.respond w).outputs = { s.outputs with hrsp := w } := rfl
@[simp] theorem respond_signals (w : U32) : (s.respond w).signals = s.signals := rfl
@[simp] theorem respond_stimuli (w : U32) : (s.respond w).stimuli = s.stimuli := rfl
@[simp] theorem respond_cycle (w : U32) : (s.respond w).cycle = s.cycle := rfl
@[simp] theorem respond_inputAt (w : U32) (j : Nat) : (s.respond w).inputAt j = s.inputAt j := rfl
@[simp] theorem respond_inputs (w : U32) : (s.respond w).inputs = s.inputs := rfl

/-! ### request -/

@[simp] theorem request_acqPhase (r : BusReq) : (s.request r).acqPhase = s.acqPhase := rfl
@[simp] theorem request_acqCnt (r : BusReq) : (s.request r).acqCnt = s.acqCnt := rfl
@[simp] theorem request_frame (r : BusReq) : (s.request r).frame = s.frame := rfl
@[simp] theorem request_measT (r : BusReq) : (s.request r).measT = s.measT := rfl
@[simp] theorem request_measRH (r : BusReq) : (s.request r).measRH = s.measRH := rfl
@[simp] theorem request_tv (r : BusReq) : (s.request r).tv = s.tv := rfl
@[simp] theorem request_lastResult (r : BusReq) : (s.request r).lastResult = s.lastResult := rfl
@[simp] theorem request_cmdLast (r : BusReq) : (s.request r).cmdLast = s.cmdLast := rfl
@[simp] theorem request_actState (r : BusReq) : (s.request r).actState = s.actState := rfl
@[simp] theorem request_actCnt (r : BusReq) : (s.request r).actCnt = s.actCnt := rfl
@[simp] theorem request_actCmd (r : BusReq) : (s.request r).actCmd = s.actCmd := rfl
@[simp] theorem request_slot (r : BusReq) : (s.request r).slot = s.slot := rfl
@[simp] theorem request_out (r : BusReq) : (s.request r).out = s.out := rfl
@[simp] theorem request_outputs (r : BusReq) : (s.request r).outputs = { s.outputs with busReq := some r } := rfl
@[simp] theorem request_signals (r : BusReq) : (s.request r).signals = s.signals := rfl
@[simp] theorem request_stimuli (r : BusReq) : (s.request r).stimuli = s.stimuli := rfl
@[simp] theorem request_cycle (r : BusReq) : (s.request r).cycle = s.cycle := rfl
@[simp] theorem request_inputAt (r : BusReq) (j : Nat) : (s.request r).inputAt j = s.inputAt j := rfl
@[simp] theorem request_inputs (r : BusReq) : (s.request r).inputs = s.inputs := rfl

/-! ### notify -/

@[simp] theorem notify_acqPhase (v : U16) : (s.notify v).acqPhase = s.acqPhase := rfl
@[simp] theorem notify_acqCnt (v : U16) : (s.notify v).acqCnt = s.acqCnt := rfl
@[simp] theorem notify_frame (v : U16) : (s.notify v).frame = s.frame := rfl
@[simp] theorem notify_measT (v : U16) : (s.notify v).measT = s.measT := rfl
@[simp] theorem notify_measRH (v : U16) : (s.notify v).measRH = s.measRH := rfl
@[simp] theorem notify_tv (v : U16) : (s.notify v).tv = s.tv := rfl
@[simp] theorem notify_lastResult (v : U16) : (s.notify v).lastResult = s.lastResult := rfl
@[simp] theorem notify_cmdLast (v : U16) : (s.notify v).cmdLast = s.cmdLast := rfl
@[simp] theorem notify_actState (v : U16) : (s.notify v).actState = s.actState := rfl
@[simp] theorem notify_actCnt (v : U16) : (s.notify v).actCnt = s.actCnt := rfl
@[simp] theorem notify_actCmd (v : U16) : (s.notify v).actCmd = s.actCmd := rfl
@[simp] theorem notify_slot (v : U16) : (s.notify v).slot = s.slot := rfl
@[simp] theorem notify_out (v : U16) : (s.notify v).out = s.out := rfl
@[simp] theorem notify_outputs (v : U16) : (s.notify v).outputs = { s.outputs with notify := some v } := rfl
@[simp] theorem notify_signals (v : U16) : (s.notify v).signals = s.signals := rfl
@[simp] theorem notify_stimuli (v : U16) : (s.notify v).stimuli = s.stimuli := rfl
@[simp] theorem notify_cycle (v : U16) : (s.notify v).cycle = s.cycle := rfl
@[simp] theorem notify_inputAt (v : U16) (j : Nat) : (s.notify v).inputAt j = s.inputAt j := rfl
@[simp] theorem notify_inputs (v : U16) : (s.notify v).inputs = s.inputs := rfl

/-! ### diagEvent -/

@[simp] theorem diagEvent_acqPhase (c : Result) : (s.diagEvent c).acqPhase = s.acqPhase := rfl
@[simp] theorem diagEvent_acqCnt (c : Result) : (s.diagEvent c).acqCnt = s.acqCnt := rfl
@[simp] theorem diagEvent_frame (c : Result) : (s.diagEvent c).frame = s.frame := rfl
@[simp] theorem diagEvent_measT (c : Result) : (s.diagEvent c).measT = s.measT := rfl
@[simp] theorem diagEvent_measRH (c : Result) : (s.diagEvent c).measRH = s.measRH := rfl
@[simp] theorem diagEvent_tv (c : Result) : (s.diagEvent c).tv = s.tv := rfl
@[simp] theorem diagEvent_lastResult (c : Result) : (s.diagEvent c).lastResult = s.lastResult := rfl
@[simp] theorem diagEvent_cmdLast (c : Result) : (s.diagEvent c).cmdLast = s.cmdLast := rfl
@[simp] theorem diagEvent_actState (c : Result) : (s.diagEvent c).actState = s.actState := rfl
@[simp] theorem diagEvent_actCnt (c : Result) : (s.diagEvent c).actCnt = s.actCnt := rfl
@[simp] theorem diagEvent_actCmd (c : Result) : (s.diagEvent c).actCmd = s.actCmd := rfl
@[simp] theorem diagEvent_slot (c : Result) : (s.diagEvent c).slot = s.slot := rfl
@[simp] theorem diagEvent_out (c : Result) : (s.diagEvent c).out = s.out := rfl
@[simp] theorem diagEvent_outputs (c : Result) : (s.diagEvent c).outputs = { s.outputs with diag := some c } := rfl
@[simp] theorem diagEvent_signals (c : Result) : (s.diagEvent c).signals = s.signals := rfl
@[simp] theorem diagEvent_stimuli (c : Result) : (s.diagEvent c).stimuli = s.stimuli := rfl
@[simp] theorem diagEvent_cycle (c : Result) : (s.diagEvent c).cycle = s.cycle := rfl
@[simp] theorem diagEvent_inputAt (c : Result) (j : Nat) : (s.diagEvent c).inputAt j = s.inputAt j := rfl
@[simp] theorem diagEvent_inputs (c : Result) : (s.diagEvent c).inputs = s.inputs := rfl

/-! ### latchCommand -/

@[simp] theorem latchCommand_acqPhase (c : Byte) : (s.latchCommand c).acqPhase = s.acqPhase := rfl
@[simp] theorem latchCommand_acqCnt (c : Byte) : (s.latchCommand c).acqCnt = s.acqCnt := rfl
@[simp] theorem latchCommand_frame (c : Byte) : (s.latchCommand c).frame = s.frame := rfl
@[simp] theorem latchCommand_measT (c : Byte) : (s.latchCommand c).measT = s.measT := rfl
@[simp] theorem latchCommand_measRH (c : Byte) : (s.latchCommand c).measRH = s.measRH := rfl
@[simp] theorem latchCommand_tv (c : Byte) : (s.latchCommand c).tv = s.tv := rfl
@[simp] theorem latchCommand_lastResult (c : Byte) : (s.latchCommand c).lastResult = s.lastResult := rfl
@[simp] theorem latchCommand_cmdLast (c : Byte) : (s.latchCommand c).cmdLast = c := rfl
@[simp] theorem latchCommand_actState (c : Byte) : (s.latchCommand c).actState = s.actState := rfl
@[simp] theorem latchCommand_actCnt (c : Byte) : (s.latchCommand c).actCnt = s.actCnt := rfl
@[simp] theorem latchCommand_actCmd (c : Byte) : (s.latchCommand c).actCmd = s.actCmd := rfl
@[simp] theorem latchCommand_slot (c : Byte) : (s.latchCommand c).slot = s.slot := rfl
@[simp] theorem latchCommand_out (c : Byte) : (s.latchCommand c).out = s.out := rfl
@[simp] theorem latchCommand_outputs (c : Byte) : (s.latchCommand c).outputs = s.outputs := rfl
@[simp] theorem latchCommand_signals (c : Byte) : (s.latchCommand c).signals = s.signals := rfl
@[simp] theorem latchCommand_stimuli (c : Byte) : (s.latchCommand c).stimuli = s.stimuli := rfl
@[simp] theorem latchCommand_cycle (c : Byte) : (s.latchCommand c).cycle = s.cycle := rfl
@[simp] theorem latchCommand_inputAt (c : Byte) (j : Nat) : (s.latchCommand c).inputAt j = s.inputAt j := rfl
@[simp] theorem latchCommand_inputs (c : Byte) : (s.latchCommand c).inputs = s.inputs := rfl

/-! ### requestCommand -/

@[simp] theorem requestCommand_acqPhase (c : Command) : (s.requestCommand c).acqPhase = s.acqPhase := rfl
@[simp] theorem requestCommand_acqCnt (c : Command) : (s.requestCommand c).acqCnt = s.acqCnt := rfl
@[simp] theorem requestCommand_frame (c : Command) : (s.requestCommand c).frame = s.frame := rfl
@[simp] theorem requestCommand_measT (c : Command) : (s.requestCommand c).measT = s.measT := rfl
@[simp] theorem requestCommand_measRH (c : Command) : (s.requestCommand c).measRH = s.measRH := rfl
@[simp] theorem requestCommand_tv (c : Command) : (s.requestCommand c).tv = s.tv := rfl
@[simp] theorem requestCommand_lastResult (c : Command) : (s.requestCommand c).lastResult = s.lastResult := rfl
@[simp] theorem requestCommand_cmdLast (c : Command) : (s.requestCommand c).cmdLast = s.cmdLast := rfl
@[simp] theorem requestCommand_actState (c : Command) : (s.requestCommand c).actState = s.actState := rfl
@[simp] theorem requestCommand_actCnt (c : Command) : (s.requestCommand c).actCnt = s.actCnt := rfl
@[simp] theorem requestCommand_actCmd (c : Command) : (s.requestCommand c).actCmd = s.actCmd := rfl
@[simp] theorem requestCommand_slot (c : Command) : (s.requestCommand c).slot = s.slot := rfl
@[simp] theorem requestCommand_out (c : Command) : (s.requestCommand c).out = s.out := rfl
@[simp] theorem requestCommand_outputs (c : Command) : (s.requestCommand c).outputs = s.outputs := rfl
@[simp] theorem requestCommand_signals (c : Command) : (s.requestCommand c).signals = { s.signals with slotSet := some c } := rfl
@[simp] theorem requestCommand_stimuli (c : Command) : (s.requestCommand c).stimuli = s.stimuli := rfl
@[simp] theorem requestCommand_cycle (c : Command) : (s.requestCommand c).cycle = s.cycle := rfl
@[simp] theorem requestCommand_inputAt (c : Command) (j : Nat) : (s.requestCommand c).inputAt j = s.inputAt j := rfl
@[simp] theorem requestCommand_inputs (c : Command) : (s.requestCommand c).inputs = s.inputs := rfl

/-! ### goto -/

@[simp] theorem goto_acqPhase (p : Phase) : (s.goto p).acqPhase = p := rfl
@[simp] theorem goto_acqCnt (p : Phase) : (s.goto p).acqCnt = s.acqCnt := rfl
@[simp] theorem goto_frame (p : Phase) : (s.goto p).frame = s.frame := rfl
@[simp] theorem goto_measT (p : Phase) : (s.goto p).measT = s.measT := rfl
@[simp] theorem goto_measRH (p : Phase) : (s.goto p).measRH = s.measRH := rfl
@[simp] theorem goto_tv (p : Phase) : (s.goto p).tv = s.tv := rfl
@[simp] theorem goto_lastResult (p : Phase) : (s.goto p).lastResult = s.lastResult := rfl
@[simp] theorem goto_cmdLast (p : Phase) : (s.goto p).cmdLast = s.cmdLast := rfl
@[simp] theorem goto_actState (p : Phase) : (s.goto p).actState = s.actState := rfl
@[simp] theorem goto_actCnt (p : Phase) : (s.goto p).actCnt = s.actCnt := rfl
@[simp] theorem goto_actCmd (p : Phase) : (s.goto p).actCmd = s.actCmd := rfl
@[simp] theorem goto_slot (p : Phase) : (s.goto p).slot = s.slot := rfl
@[simp] theorem goto_out (p : Phase) : (s.goto p).out = s.out := rfl
@[simp] theorem goto_outputs (p : Phase) : (s.goto p).outputs = s.outputs := rfl
@[simp] theorem goto_signals (p : Phase) : (s.goto p).signals = s.signals := rfl
@[simp] theorem goto_stimuli (p : Phase) : (s.goto p).stimuli = s.stimuli := rfl
@[simp] theorem goto_cycle (p : Phase) : (s.goto p).cycle = s.cycle := rfl
@[simp] theorem goto_inputAt (p : Phase) (j : Nat) : (s.goto p).inputAt j = s.inputAt j := rfl
@[simp] theorem goto_inputs (p : Phase) : (s.goto p).inputs = s.inputs := rfl

/-! ### loadAcqCnt -/

@[simp] theorem loadAcqCnt_acqPhase (n : Nat) : (s.loadAcqCnt n).acqPhase = s.acqPhase := rfl
@[simp] theorem loadAcqCnt_acqCnt (n : Nat) : (s.loadAcqCnt n).acqCnt = n := rfl
@[simp] theorem loadAcqCnt_frame (n : Nat) : (s.loadAcqCnt n).frame = s.frame := rfl
@[simp] theorem loadAcqCnt_measT (n : Nat) : (s.loadAcqCnt n).measT = s.measT := rfl
@[simp] theorem loadAcqCnt_measRH (n : Nat) : (s.loadAcqCnt n).measRH = s.measRH := rfl
@[simp] theorem loadAcqCnt_tv (n : Nat) : (s.loadAcqCnt n).tv = s.tv := rfl
@[simp] theorem loadAcqCnt_lastResult (n : Nat) : (s.loadAcqCnt n).lastResult = s.lastResult := rfl
@[simp] theorem loadAcqCnt_cmdLast (n : Nat) : (s.loadAcqCnt n).cmdLast = s.cmdLast := rfl
@[simp] theorem loadAcqCnt_actState (n : Nat) : (s.loadAcqCnt n).actState = s.actState := rfl
@[simp] theorem loadAcqCnt_actCnt (n : Nat) : (s.loadAcqCnt n).actCnt = s.actCnt := rfl
@[simp] theorem loadAcqCnt_actCmd (n : Nat) : (s.loadAcqCnt n).actCmd = s.actCmd := rfl
@[simp] theorem loadAcqCnt_slot (n : Nat) : (s.loadAcqCnt n).slot = s.slot := rfl
@[simp] theorem loadAcqCnt_out (n : Nat) : (s.loadAcqCnt n).out = s.out := rfl
@[simp] theorem loadAcqCnt_outputs (n : Nat) : (s.loadAcqCnt n).outputs = s.outputs := rfl
@[simp] theorem loadAcqCnt_signals (n : Nat) : (s.loadAcqCnt n).signals = s.signals := rfl
@[simp] theorem loadAcqCnt_stimuli (n : Nat) : (s.loadAcqCnt n).stimuli = s.stimuli := rfl
@[simp] theorem loadAcqCnt_cycle (n : Nat) : (s.loadAcqCnt n).cycle = s.cycle := rfl
@[simp] theorem loadAcqCnt_inputAt (n : Nat) (j : Nat) : (s.loadAcqCnt n).inputAt j = s.inputAt j := rfl
@[simp] theorem loadAcqCnt_inputs (n : Nat) : (s.loadAcqCnt n).inputs = s.inputs := rfl

/-! ### countAcq -/

@[simp] theorem countAcq_acqPhase : (s.countAcq).acqPhase = s.acqPhase := rfl
@[simp] theorem countAcq_acqCnt : (s.countAcq).acqCnt = countDown Config.wAcq s.acqCnt := rfl
@[simp] theorem countAcq_frame : (s.countAcq).frame = s.frame := rfl
@[simp] theorem countAcq_measT : (s.countAcq).measT = s.measT := rfl
@[simp] theorem countAcq_measRH : (s.countAcq).measRH = s.measRH := rfl
@[simp] theorem countAcq_tv : (s.countAcq).tv = s.tv := rfl
@[simp] theorem countAcq_lastResult : (s.countAcq).lastResult = s.lastResult := rfl
@[simp] theorem countAcq_cmdLast : (s.countAcq).cmdLast = s.cmdLast := rfl
@[simp] theorem countAcq_actState : (s.countAcq).actState = s.actState := rfl
@[simp] theorem countAcq_actCnt : (s.countAcq).actCnt = s.actCnt := rfl
@[simp] theorem countAcq_actCmd : (s.countAcq).actCmd = s.actCmd := rfl
@[simp] theorem countAcq_slot : (s.countAcq).slot = s.slot := rfl
@[simp] theorem countAcq_out : (s.countAcq).out = s.out := rfl
@[simp] theorem countAcq_outputs : (s.countAcq).outputs = s.outputs := rfl
@[simp] theorem countAcq_signals : (s.countAcq).signals = s.signals := rfl
@[simp] theorem countAcq_stimuli : (s.countAcq).stimuli = s.stimuli := rfl
@[simp] theorem countAcq_cycle : (s.countAcq).cycle = s.cycle := rfl
@[simp] theorem countAcq_inputAt (j : Nat) : (s.countAcq).inputAt j = s.inputAt j := rfl
@[simp] theorem countAcq_inputs : (s.countAcq).inputs = s.inputs := rfl

/-! ### latchFrame -/

@[simp] theorem latchFrame_acqPhase (f : Frame) : (s.latchFrame f).acqPhase = s.acqPhase := rfl
@[simp] theorem latchFrame_acqCnt (f : Frame) : (s.latchFrame f).acqCnt = s.acqCnt := rfl
@[simp] theorem latchFrame_frame (f : Frame) : (s.latchFrame f).frame = f := rfl
@[simp] theorem latchFrame_measT (f : Frame) : (s.latchFrame f).measT = s.measT := rfl
@[simp] theorem latchFrame_measRH (f : Frame) : (s.latchFrame f).measRH = s.measRH := rfl
@[simp] theorem latchFrame_tv (f : Frame) : (s.latchFrame f).tv = s.tv := rfl
@[simp] theorem latchFrame_lastResult (f : Frame) : (s.latchFrame f).lastResult = s.lastResult := rfl
@[simp] theorem latchFrame_cmdLast (f : Frame) : (s.latchFrame f).cmdLast = s.cmdLast := rfl
@[simp] theorem latchFrame_actState (f : Frame) : (s.latchFrame f).actState = s.actState := rfl
@[simp] theorem latchFrame_actCnt (f : Frame) : (s.latchFrame f).actCnt = s.actCnt := rfl
@[simp] theorem latchFrame_actCmd (f : Frame) : (s.latchFrame f).actCmd = s.actCmd := rfl
@[simp] theorem latchFrame_slot (f : Frame) : (s.latchFrame f).slot = s.slot := rfl
@[simp] theorem latchFrame_out (f : Frame) : (s.latchFrame f).out = s.out := rfl
@[simp] theorem latchFrame_outputs (f : Frame) : (s.latchFrame f).outputs = s.outputs := rfl
@[simp] theorem latchFrame_signals (f : Frame) : (s.latchFrame f).signals = s.signals := rfl
@[simp] theorem latchFrame_stimuli (f : Frame) : (s.latchFrame f).stimuli = s.stimuli := rfl
@[simp] theorem latchFrame_cycle (f : Frame) : (s.latchFrame f).cycle = s.cycle := rfl
@[simp] theorem latchFrame_inputAt (f : Frame) (j : Nat) : (s.latchFrame f).inputAt j = s.inputAt j := rfl
@[simp] theorem latchFrame_inputs (f : Frame) : (s.latchFrame f).inputs = s.inputs := rfl

/-! ### commit -/

@[simp] theorem commit_acqPhase (t h : U32) (v : U16) : (s.commit t h v).acqPhase = s.acqPhase := rfl
@[simp] theorem commit_acqCnt (t h : U32) (v : U16) : (s.commit t h v).acqCnt = s.acqCnt := rfl
@[simp] theorem commit_frame (t h : U32) (v : U16) : (s.commit t h v).frame = s.frame := rfl
@[simp] theorem commit_measT (t h : U32) (v : U16) : (s.commit t h v).measT = t := rfl
@[simp] theorem commit_measRH (t h : U32) (v : U16) : (s.commit t h v).measRH = h := rfl
@[simp] theorem commit_tv (t h : U32) (v : U16) : (s.commit t h v).tv = v := rfl
@[simp] theorem commit_lastResult (t h : U32) (v : U16) : (s.commit t h v).lastResult = s.lastResult := rfl
@[simp] theorem commit_cmdLast (t h : U32) (v : U16) : (s.commit t h v).cmdLast = s.cmdLast := rfl
@[simp] theorem commit_actState (t h : U32) (v : U16) : (s.commit t h v).actState = s.actState := rfl
@[simp] theorem commit_actCnt (t h : U32) (v : U16) : (s.commit t h v).actCnt = s.actCnt := rfl
@[simp] theorem commit_actCmd (t h : U32) (v : U16) : (s.commit t h v).actCmd = s.actCmd := rfl
@[simp] theorem commit_slot (t h : U32) (v : U16) : (s.commit t h v).slot = s.slot := rfl
@[simp] theorem commit_out (t h : U32) (v : U16) : (s.commit t h v).out = s.out := rfl
@[simp] theorem commit_outputs (t h : U32) (v : U16) : (s.commit t h v).outputs = s.outputs := rfl
@[simp] theorem commit_signals (t h : U32) (v : U16) : (s.commit t h v).signals = s.signals := rfl
@[simp] theorem commit_stimuli (t h : U32) (v : U16) : (s.commit t h v).stimuli = s.stimuli := rfl
@[simp] theorem commit_cycle (t h : U32) (v : U16) : (s.commit t h v).cycle = s.cycle := rfl
@[simp] theorem commit_inputAt (t h : U32) (v : U16) (j : Nat) : (s.commit t h v).inputAt j = s.inputAt j := rfl
@[simp] theorem commit_inputs (t h : U32) (v : U16) : (s.commit t h v).inputs = s.inputs := rfl

/-! ### endIter -/

@[simp] theorem endIter_acqPhase (c : Result) : (s.endIter c).acqPhase = .sleep := rfl
@[simp] theorem endIter_acqCnt (c : Result) : (s.endIter c).acqCnt = periodCycles := rfl
@[simp] theorem endIter_frame (c : Result) : (s.endIter c).frame = s.frame := rfl
@[simp] theorem endIter_measT (c : Result) : (s.endIter c).measT = s.measT := rfl
@[simp] theorem endIter_measRH (c : Result) : (s.endIter c).measRH = s.measRH := rfl
@[simp] theorem endIter_tv (c : Result) : (s.endIter c).tv = s.tv := rfl
@[simp] theorem endIter_lastResult (c : Result) : (s.endIter c).lastResult = c := rfl
@[simp] theorem endIter_cmdLast (c : Result) : (s.endIter c).cmdLast = s.cmdLast := rfl
@[simp] theorem endIter_actState (c : Result) : (s.endIter c).actState = s.actState := rfl
@[simp] theorem endIter_actCnt (c : Result) : (s.endIter c).actCnt = s.actCnt := rfl
@[simp] theorem endIter_actCmd (c : Result) : (s.endIter c).actCmd = s.actCmd := rfl
@[simp] theorem endIter_slot (c : Result) : (s.endIter c).slot = s.slot := rfl
@[simp] theorem endIter_out (c : Result) : (s.endIter c).out = s.out := rfl
@[simp] theorem endIter_outputs (c : Result) : (s.endIter c).outputs = { s.outputs with diag := some c } := rfl
@[simp] theorem endIter_signals (c : Result) : (s.endIter c).signals = s.signals := rfl
@[simp] theorem endIter_stimuli (c : Result) : (s.endIter c).stimuli = s.stimuli := rfl
@[simp] theorem endIter_cycle (c : Result) : (s.endIter c).cycle = s.cycle := rfl
@[simp] theorem endIter_inputAt (c : Result) (j : Nat) : (s.endIter c).inputAt j = s.inputAt j := rfl
@[simp] theorem endIter_inputs (c : Result) : (s.endIter c).inputs = s.inputs := rfl

/-! ### startPulse -/

@[simp] theorem startPulse_acqPhase : (s.startPulse).acqPhase = s.acqPhase := rfl
@[simp] theorem startPulse_acqCnt : (s.startPulse).acqCnt = s.acqCnt := rfl
@[simp] theorem startPulse_frame : (s.startPulse).frame = s.frame := rfl
@[simp] theorem startPulse_measT : (s.startPulse).measT = s.measT := rfl
@[simp] theorem startPulse_measRH : (s.startPulse).measRH = s.measRH := rfl
@[simp] theorem startPulse_tv : (s.startPulse).tv = s.tv := rfl
@[simp] theorem startPulse_lastResult : (s.startPulse).lastResult = s.lastResult := rfl
@[simp] theorem startPulse_cmdLast : (s.startPulse).cmdLast = s.cmdLast := rfl
@[simp] theorem startPulse_actState : (s.startPulse).actState = .driving := rfl
@[simp] theorem startPulse_actCnt : (s.startPulse).actCnt = dur s.slot.cmd := rfl
@[simp] theorem startPulse_actCmd : (s.startPulse).actCmd = s.slot.cmd := rfl
@[simp] theorem startPulse_slot : (s.startPulse).slot = s.slot := rfl
@[simp] theorem startPulse_out : (s.startPulse).out = false := rfl
@[simp] theorem startPulse_outputs : (s.startPulse).outputs = s.outputs := rfl
@[simp] theorem startPulse_signals : (s.startPulse).signals = { s.signals with consume := true } := rfl
@[simp] theorem startPulse_stimuli : (s.startPulse).stimuli = s.stimuli := rfl
@[simp] theorem startPulse_cycle : (s.startPulse).cycle = s.cycle := rfl
@[simp] theorem startPulse_inputAt (j : Nat) : (s.startPulse).inputAt j = s.inputAt j := rfl
@[simp] theorem startPulse_inputs : (s.startPulse).inputs = s.inputs := rfl

/-! ### endPulse -/

@[simp] theorem endPulse_acqPhase : (s.endPulse).acqPhase = s.acqPhase := rfl
@[simp] theorem endPulse_acqCnt : (s.endPulse).acqCnt = s.acqCnt := rfl
@[simp] theorem endPulse_frame : (s.endPulse).frame = s.frame := rfl
@[simp] theorem endPulse_measT : (s.endPulse).measT = s.measT := rfl
@[simp] theorem endPulse_measRH : (s.endPulse).measRH = s.measRH := rfl
@[simp] theorem endPulse_tv : (s.endPulse).tv = s.tv := rfl
@[simp] theorem endPulse_lastResult : (s.endPulse).lastResult = s.lastResult := rfl
@[simp] theorem endPulse_cmdLast : (s.endPulse).cmdLast = s.cmdLast := rfl
@[simp] theorem endPulse_actState : (s.endPulse).actState = .idle := rfl
@[simp] theorem endPulse_actCnt : (s.endPulse).actCnt = 0 := rfl
@[simp] theorem endPulse_actCmd : (s.endPulse).actCmd = s.actCmd := rfl
@[simp] theorem endPulse_slot : (s.endPulse).slot = s.slot := rfl
@[simp] theorem endPulse_out : (s.endPulse).out = true := rfl
@[simp] theorem endPulse_outputs : (s.endPulse).outputs = s.outputs := rfl
@[simp] theorem endPulse_signals : (s.endPulse).signals = { s.signals with consume := false } := rfl
@[simp] theorem endPulse_stimuli : (s.endPulse).stimuli = s.stimuli := rfl
@[simp] theorem endPulse_cycle : (s.endPulse).cycle = s.cycle := rfl
@[simp] theorem endPulse_inputAt (j : Nat) : (s.endPulse).inputAt j = s.inputAt j := rfl
@[simp] theorem endPulse_inputs : (s.endPulse).inputs = s.inputs := rfl

/-! ### holdPulse -/

@[simp] theorem holdPulse_acqPhase : (s.holdPulse).acqPhase = s.acqPhase := rfl
@[simp] theorem holdPulse_acqCnt : (s.holdPulse).acqCnt = s.acqCnt := rfl
@[simp] theorem holdPulse_frame : (s.holdPulse).frame = s.frame := rfl
@[simp] theorem holdPulse_measT : (s.holdPulse).measT = s.measT := rfl
@[simp] theorem holdPulse_measRH : (s.holdPulse).measRH = s.measRH := rfl
@[simp] theorem holdPulse_tv : (s.holdPulse).tv = s.tv := rfl
@[simp] theorem holdPulse_lastResult : (s.holdPulse).lastResult = s.lastResult := rfl
@[simp] theorem holdPulse_cmdLast : (s.holdPulse).cmdLast = s.cmdLast := rfl
@[simp] theorem holdPulse_actState : (s.holdPulse).actState = s.actState := rfl
@[simp] theorem holdPulse_actCnt : (s.holdPulse).actCnt = countDown Config.wAct s.actCnt := rfl
@[simp] theorem holdPulse_actCmd : (s.holdPulse).actCmd = s.actCmd := rfl
@[simp] theorem holdPulse_slot : (s.holdPulse).slot = s.slot := rfl
@[simp] theorem holdPulse_out : (s.holdPulse).out = s.out := rfl
@[simp] theorem holdPulse_outputs : (s.holdPulse).outputs = s.outputs := rfl
@[simp] theorem holdPulse_signals : (s.holdPulse).signals = { s.signals with consume := false } := rfl
@[simp] theorem holdPulse_stimuli : (s.holdPulse).stimuli = s.stimuli := rfl
@[simp] theorem holdPulse_cycle : (s.holdPulse).cycle = s.cycle := rfl
@[simp] theorem holdPulse_inputAt (j : Nat) : (s.holdPulse).inputAt j = s.inputAt j := rfl
@[simp] theorem holdPulse_inputs : (s.holdPulse).inputs = s.inputs := rfl

/-! ### stayIdle -/

@[simp] theorem stayIdle_acqPhase : (s.stayIdle).acqPhase = s.acqPhase := rfl
@[simp] theorem stayIdle_acqCnt : (s.stayIdle).acqCnt = s.acqCnt := rfl
@[simp] theorem stayIdle_frame : (s.stayIdle).frame = s.frame := rfl
@[simp] theorem stayIdle_measT : (s.stayIdle).measT = s.measT := rfl
@[simp] theorem stayIdle_measRH : (s.stayIdle).measRH = s.measRH := rfl
@[simp] theorem stayIdle_tv : (s.stayIdle).tv = s.tv := rfl
@[simp] theorem stayIdle_lastResult : (s.stayIdle).lastResult = s.lastResult := rfl
@[simp] theorem stayIdle_cmdLast : (s.stayIdle).cmdLast = s.cmdLast := rfl
@[simp] theorem stayIdle_actState : (s.stayIdle).actState = s.actState := rfl
@[simp] theorem stayIdle_actCnt : (s.stayIdle).actCnt = s.actCnt := rfl
@[simp] theorem stayIdle_actCmd : (s.stayIdle).actCmd = s.actCmd := rfl
@[simp] theorem stayIdle_slot : (s.stayIdle).slot = s.slot := rfl
@[simp] theorem stayIdle_out : (s.stayIdle).out = s.out := rfl
@[simp] theorem stayIdle_outputs : (s.stayIdle).outputs = s.outputs := rfl
@[simp] theorem stayIdle_signals : (s.stayIdle).signals = { s.signals with consume := false } := rfl
@[simp] theorem stayIdle_stimuli : (s.stayIdle).stimuli = s.stimuli := rfl
@[simp] theorem stayIdle_cycle : (s.stayIdle).cycle = s.cycle := rfl
@[simp] theorem stayIdle_inputAt (j : Nat) : (s.stayIdle).inputAt j = s.inputAt j := rfl
@[simp] theorem stayIdle_inputs : (s.stayIdle).inputs = s.inputs := rfl

/-! ### advanceInputs -/

@[simp] theorem advanceInputs_acqPhase : (s.advanceInputs).acqPhase = s.acqPhase := rfl
@[simp] theorem advanceInputs_acqCnt : (s.advanceInputs).acqCnt = s.acqCnt := rfl
@[simp] theorem advanceInputs_frame : (s.advanceInputs).frame = s.frame := rfl
@[simp] theorem advanceInputs_measT : (s.advanceInputs).measT = s.measT := rfl
@[simp] theorem advanceInputs_measRH : (s.advanceInputs).measRH = s.measRH := rfl
@[simp] theorem advanceInputs_tv : (s.advanceInputs).tv = s.tv := rfl
@[simp] theorem advanceInputs_lastResult : (s.advanceInputs).lastResult = s.lastResult := rfl
@[simp] theorem advanceInputs_cmdLast : (s.advanceInputs).cmdLast = s.cmdLast := rfl
@[simp] theorem advanceInputs_actState : (s.advanceInputs).actState = s.actState := rfl
@[simp] theorem advanceInputs_actCnt : (s.advanceInputs).actCnt = s.actCnt := rfl
@[simp] theorem advanceInputs_actCmd : (s.advanceInputs).actCmd = s.actCmd := rfl
@[simp] theorem advanceInputs_slot : (s.advanceInputs).slot = s.slot := rfl
@[simp] theorem advanceInputs_out : (s.advanceInputs).out = s.out := rfl
@[simp] theorem advanceInputs_outputs : (s.advanceInputs).outputs = s.outputs := rfl
@[simp] theorem advanceInputs_signals : (s.advanceInputs).signals = s.signals := rfl
@[simp] theorem advanceInputs_stimuli : (s.advanceInputs).stimuli = s.stimuli.tail := rfl
@[simp] theorem advanceInputs_cycle : (s.advanceInputs).cycle = s.cycle + 1 := rfl

/-! ### endCycle -/

@[simp] theorem endCycle_acqPhase : (s.endCycle).acqPhase = s.acqPhase := rfl
@[simp] theorem endCycle_acqCnt : (s.endCycle).acqCnt = s.acqCnt := rfl
@[simp] theorem endCycle_frame : (s.endCycle).frame = s.frame := rfl
@[simp] theorem endCycle_measT : (s.endCycle).measT = s.measT := rfl
@[simp] theorem endCycle_measRH : (s.endCycle).measRH = s.measRH := rfl
@[simp] theorem endCycle_tv : (s.endCycle).tv = s.tv := rfl
@[simp] theorem endCycle_lastResult : (s.endCycle).lastResult = s.lastResult := rfl
@[simp] theorem endCycle_cmdLast : (s.endCycle).cmdLast = s.cmdLast := rfl
@[simp] theorem endCycle_actState : (s.endCycle).actState = s.actState := rfl
@[simp] theorem endCycle_actCnt : (s.endCycle).actCnt = s.actCnt := rfl
@[simp] theorem endCycle_actCmd : (s.endCycle).actCmd = s.actCmd := rfl
@[simp] theorem endCycle_slot : (s.endCycle).slot = slotNext s.slot s.signals.slotSet s.signals.consume := rfl
@[simp] theorem endCycle_out : (s.endCycle).out = s.out := rfl
@[simp] theorem endCycle_outputs : (s.endCycle).outputs = s.outputs := rfl
@[simp] theorem endCycle_signals : (s.endCycle).signals = Signals.clear := rfl
@[simp] theorem endCycle_stimuli : (s.endCycle).stimuli = s.stimuli.tail := rfl
@[simp] theorem endCycle_cycle : (s.endCycle).cycle = s.cycle + 1 := rfl

/-! ### drive -/

@[simp] theorem drive_acqPhase (i : Inputs) : (s.drive i).acqPhase = s.acqPhase := rfl
@[simp] theorem drive_acqCnt (i : Inputs) : (s.drive i).acqCnt = s.acqCnt := rfl
@[simp] theorem drive_frame (i : Inputs) : (s.drive i).frame = s.frame := rfl
@[simp] theorem drive_measT (i : Inputs) : (s.drive i).measT = s.measT := rfl
@[simp] theorem drive_measRH (i : Inputs) : (s.drive i).measRH = s.measRH := rfl
@[simp] theorem drive_tv (i : Inputs) : (s.drive i).tv = s.tv := rfl
@[simp] theorem drive_lastResult (i : Inputs) : (s.drive i).lastResult = s.lastResult := rfl
@[simp] theorem drive_cmdLast (i : Inputs) : (s.drive i).cmdLast = s.cmdLast := rfl
@[simp] theorem drive_actState (i : Inputs) : (s.drive i).actState = s.actState := rfl
@[simp] theorem drive_actCnt (i : Inputs) : (s.drive i).actCnt = s.actCnt := rfl
@[simp] theorem drive_actCmd (i : Inputs) : (s.drive i).actCmd = s.actCmd := rfl
@[simp] theorem drive_slot (i : Inputs) : (s.drive i).slot = s.slot := rfl
@[simp] theorem drive_out (i : Inputs) : (s.drive i).out = s.out := rfl
@[simp] theorem drive_outputs (i : Inputs) : (s.drive i).outputs = s.outputs := rfl
@[simp] theorem drive_signals (i : Inputs) : (s.drive i).signals = s.signals := rfl
@[simp] theorem drive_stimuli (i : Inputs) : (s.drive i).stimuli = i :: s.stimuli.tail := rfl
@[simp] theorem drive_cycle (i : Inputs) : (s.drive i).cycle = s.cycle := rfl

/-! ### resetCycle -/

@[simp] theorem resetCycle_acqPhase : s.resetCycle.acqPhase = State.reset.acqPhase := rfl
@[simp] theorem resetCycle_acqCnt : s.resetCycle.acqCnt = State.reset.acqCnt := rfl
@[simp] theorem resetCycle_frame : s.resetCycle.frame = State.reset.frame := rfl
@[simp] theorem resetCycle_measT : s.resetCycle.measT = State.reset.measT := rfl
@[simp] theorem resetCycle_measRH : s.resetCycle.measRH = State.reset.measRH := rfl
@[simp] theorem resetCycle_tv : s.resetCycle.tv = State.reset.tv := rfl
@[simp] theorem resetCycle_lastResult : s.resetCycle.lastResult = State.reset.lastResult := rfl
@[simp] theorem resetCycle_cmdLast : s.resetCycle.cmdLast = State.reset.cmdLast := rfl
@[simp] theorem resetCycle_actState : s.resetCycle.actState = State.reset.actState := rfl
@[simp] theorem resetCycle_actCnt : s.resetCycle.actCnt = State.reset.actCnt := rfl
@[simp] theorem resetCycle_actCmd : s.resetCycle.actCmd = State.reset.actCmd := rfl
@[simp] theorem resetCycle_slot : s.resetCycle.slot = State.reset.slot := rfl
@[simp] theorem resetCycle_out : s.resetCycle.out = State.reset.out := rfl
@[simp] theorem resetCycle_outputs : s.resetCycle.outputs = State.reset.outputs := rfl
@[simp] theorem resetCycle_signals : s.resetCycle.signals = State.reset.signals := rfl
@[simp] theorem resetCycle_stimuli : s.resetCycle.stimuli = s.stimuli.tail := rfl
@[simp] theorem resetCycle_cycle : s.resetCycle.cycle = s.cycle + 1 := rfl

end Sys2Proof.Machine.State
end

