-- ==== Sys2Proof/Laws/Ops.lean ====
section
/-! SUPPORT. One lemma per shared operation, saying everything it can do: outcomes in sequence, the counters and
their durations, the input pins, the slot, and what each of the three agents of a cycle leaves alone. -/

namespace Sys2Proof.Machine

/-! ### Outcomes in sequence -/

@[simp] theorem andThen_next (s : State) (f : State → Host.Outcome State Fault Refusal) :
    andThen (.next s) f = f s := rfl

theorem andThen_eq_next {o : Host.Outcome State Fault Refusal} {f : State → Host.Outcome State Fault Refusal}
    {t : State} : andThen o f = .next t ↔ ∃ s, o = .next s ∧ f s = .next t := by
  cases o <;> simp [andThen]

/-! ### Durations and counters -/

theorem cpm_pos : 0 < Config.cpm := Config.cpmPos.pos

theorem periodCycles_pos : 0 < periodCycles := Nat.mul_pos (by decide) cpm_pos

theorem settleCycles_pos : 0 < settleCycles := Nat.mul_pos (by decide) cpm_pos

theorem dur_pos (c : Command) : 0 < dur c := by
  cases c <;> exact Nat.mul_pos (by decide) cpm_pos

theorem settleCycles_le_periodCycles : settleCycles ≤ periodCycles := Nat.mul_le_mul_right _ (by decide)

theorem dur_le_off (c : Command) : dur c ≤ dur .off := by
  cases c
  · exact Nat.le_refl _
  · exact Nat.mul_le_mul_right _ (by decide)

/-- R8: W_ACQ holds every load of ACQ_CNT. -/
theorem lt_two_pow_wAcq {n : Nat} (h : n ≤ periodCycles) : n < 2 ^ Config.wAcq := by
  have h1 : periodCycles < 2 ^ Nat.size (1000 * Config.cpm) := Nat.lt_size_self _
  have h2 : 2 ^ Nat.size (1000 * Config.cpm) ≤ 2 ^ Config.wAcq :=
    Nat.pow_le_pow_right (by decide) (Nat.le_add_right _ _)
  omega

/-- R8: W_ACT holds every load of ACT_CNT. -/
theorem lt_two_pow_wAct {n : Nat} (h : n ≤ dur .off) : n < 2 ^ Config.wAct := by
  have h1 : dur .off < 2 ^ Nat.size (3000 * Config.cpm) := Nat.lt_size_self _
  have h2 : 2 ^ Nat.size (3000 * Config.cpm) ≤ 2 ^ Config.wAct :=
    Nat.pow_le_pow_right (by decide) (Nat.le_add_right _ _)
  omega

/-- R40, R267: a count of at least 1 goes down by one. -/
@[simp] theorem countDown_of_pos {c : Nat} (w : Nat) (h : 1 ≤ c) : countDown w c = c - 1 := by
  simp [countDown, Nat.ne_of_gt h]

/-- R10: a count below 2^w stays below it. -/
theorem countDown_lt {w c : Nat} (h : c < 2 ^ w) : countDown w c < 2 ^ w := by
  unfold countDown
  split <;> omega

/-! ### Input pins -/

/-- The pins of the cycles to come do not depend on how the list of stimuli is cut. -/
@[simp] theorem advanceInputs_inputAt (s : State) (j : Nat) : s.advanceInputs.inputAt j = s.inputAt (j + 1) := by
  unfold State.inputAt
  simp [Nat.add_assoc, Nat.add_comm 1 j]

@[simp] theorem endCycle_inputAt (s : State) (j : Nat) : s.endCycle.inputAt j = s.inputAt (j + 1) :=
  advanceInputs_inputAt
    { s with slot := slotNext s.slot s.signals.slotSet s.signals.consume, signals := Signals.clear } j

@[simp] theorem resetCycle_inputAt (s : State) (j : Nat) : s.resetCycle.inputAt j = s.inputAt (j + 1) :=
  advanceInputs_inputAt { State.reset with stimuli := s.stimuli, cycle := s.cycle } j

@[simp] theorem drive_inputs (s : State) (i : Inputs) : (s.drive i).inputs = i := rfl

@[simp] theorem drive_inputAt_succ (s : State) (i : Inputs) (j : Nat) :
    (s.drive i).inputAt (j + 1) = s.inputAt (j + 1) := by
  simp [State.inputAt]

/-! ### The slot (R205) -/

@[simp] theorem slotNext_write (slot : Slot) (c : Command) (consume : Bool) :
    slotNext slot (some c) consume = ⟨true, c⟩ := rfl

@[simp] theorem slotNext_consume (slot : Slot) : slotNext slot none true = ⟨false, slot.cmd⟩ := rfl

@[simp] theorem slotNext_keep (slot : Slot) : slotNext slot none false = slot := rfl

/-! ### Frames of the three agents (R39: they write disjoint elements) -/

/-- What the Acquisition Loop leaves alone in a cycle. -/
structure SameOutsideAcq (s t : State) : Prop where
  cmdLast : t.cmdLast = s.cmdLast
  actState : t.actState = s.actState
  actCnt : t.actCnt = s.actCnt
  actCmd : t.actCmd = s.actCmd
  slot : t.slot = s.slot
  out : t.out = s.out
  hrsp : t.outputs.hrsp = s.outputs.hrsp
  actOut : t.outputs.actOut = s.outputs.actOut
  slotSet : t.signals.slotSet = s.signals.slotSet
  consume : t.signals.consume = s.signals.consume
  stimuli : t.stimuli = s.stimuli
  cycle : t.cycle = s.cycle

theorem SameOutsideAcq.refl (s : State) : SameOutsideAcq s s := by constructor <;> rfl

theorem SameOutsideAcq.trans {s t u : State} (h : SameOutsideAcq s t) (k : SameOutsideAcq t u) :
    SameOutsideAcq s u := by
  constructor
  · exact k.cmdLast.trans h.cmdLast
  · exact k.actState.trans h.actState
  · exact k.actCnt.trans h.actCnt
  · exact k.actCmd.trans h.actCmd
  · exact k.slot.trans h.slot
  · exact k.out.trans h.out
  · exact k.hrsp.trans h.hrsp
  · exact k.actOut.trans h.actOut
  · exact k.slotSet.trans h.slotSet
  · exact k.consume.trans h.consume
  · exact k.stimuli.trans h.stimuli
  · exact k.cycle.trans h.cycle

theorem endIter_sameOutsideAcq (s : State) (c : Result) : SameOutsideAcq s (s.endIter c) := by
  constructor <;> rfl

theorem awaitWrite_sameOutsideAcq (s : State) : SameOutsideAcq s s.awaitWrite := by
  unfold State.awaitWrite
  split
  · constructor <;> rfl
  · exact endIter_sameOutsideAcq s _
  · exact SameOutsideAcq.refl s
  · exact SameOutsideAcq.refl s

theorem execBusReadyCheck_sameOutsideAcq {s t : State} (h : execBusReadyCheck s = .next t) : SameOutsideAcq s t := by
  unfold execBusReadyCheck at h
  split at h <;> cases h
  · exact endIter_sameOutsideAcq s _
  · exact SameOutsideAcq.refl s

theorem execTrigWrite_sameOutsideAcq {s t : State} (h : execTrigWrite s = .next t) : SameOutsideAcq s t := by
  unfold execTrigWrite at h
  split at h <;> cases h
  · constructor <;> rfl
  · exact SameOutsideAcq.refl s

theorem execSettleWait_sameOutsideAcq {s t : State} (h : execSettleWait s = .next t) : SameOutsideAcq s t := by
  unfold execSettleWait at h
  split at h
  · split at h <;> cases h <;> constructor <;> rfl
  · cases h
    exact SameOutsideAcq.refl s

theorem execPeriodWait_sameOutsideAcq {s t : State} (h : execPeriodWait s = .next t) : SameOutsideAcq s t := by
  unfold execPeriodWait at h
  split at h
  · split at h <;> cases h <;> constructor <;> rfl
  · cases h
    exact SameOutsideAcq.refl s

theorem execFrameRead_sameOutsideAcq {f : Frame} {s t : State} (h : execFrameRead f s = .next t) :
    SameOutsideAcq s t := by
  unfold execFrameRead at h
  split at h <;> cases h
  · constructor <;> rfl
  · exact SameOutsideAcq.refl s

theorem execNotifyHum_sameOutsideAcq {v : U16} {s t : State} (h : execNotifyHum v s = .next t) :
    SameOutsideAcq s t := by
  unfold execNotifyHum at h
  split at h <;> cases h
  · constructor <;> rfl
  · exact SameOutsideAcq.refl s

theorem awaitRead_sameOutsideAcq {s t : State} (h : awaitRead s = .next t) : SameOutsideAcq s t := by
  unfold awaitRead at h
  split at h
  · exact execFrameRead_sameOutsideAcq h
  · cases h
    exact endIter_sameOutsideAcq s _
  · cases h
    exact SameOutsideAcq.refl s
  · cases h
    exact SameOutsideAcq.refl s

theorem evalAccepted_sameOutsideAcq {s t : State} (h : evalAccepted s = .next t) : SameOutsideAcq s t := by
  simp only [evalAccepted, exec, execFrameParse, execDecodeT, execDecodeRh, execEncode, andThen_next,
    andThen_eq_next] at h
  obtain ⟨u, hu, ht⟩ := h
  cases ht
  refine SameOutsideAcq.trans ?_ ((execNotifyHum_sameOutsideAcq hu).trans (endIter_sameOutsideAcq u _))
  constructor <;> rfl

theorem evalPhase_sameOutsideAcq {s t : State} (h : evalPhase s = .next t) : SameOutsideAcq s t := by
  simp only [evalPhase, exec, execFrameCheck, execCrc8, andThen_next] at h
  split at h
  · refine SameOutsideAcq.trans ?_ (evalAccepted_sameOutsideAcq h)
    constructor <;> rfl
  · cases h
    constructor <;> rfl

/-- R39: the Acquisition Loop writes nothing of the host port or of the Actuator Controller. -/
theorem acqStep_sameOutsideAcq {s t : State} (h : acqStep s = .next t) : SameOutsideAcq s t := by
  unfold acqStep at h
  split at h
  · obtain ⟨u, hu, ht⟩ := andThen_eq_next.mp h
    exact (execBusReadyCheck_sameOutsideAcq hu).trans (execTrigWrite_sameOutsideAcq ht)
  · cases h
    exact awaitWrite_sameOutsideAcq s
  · exact execSettleWait_sameOutsideAcq h
  · exact awaitRead_sameOutsideAcq h
  · exact evalPhase_sameOutsideAcq h
  · exact execPeriodWait_sameOutsideAcq h

/-- R39: what a host request leaves alone. -/
structure SameOutsideHost (s t : State) : Prop where
  acqPhase : t.acqPhase = s.acqPhase
  acqCnt : t.acqCnt = s.acqCnt
  frame : t.frame = s.frame
  measT : t.measT = s.measT
  measRH : t.measRH = s.measRH
  tv : t.tv = s.tv
  lastResult : t.lastResult = s.lastResult
  actState : t.actState = s.actState
  actCnt : t.actCnt = s.actCnt
  actCmd : t.actCmd = s.actCmd
  slot : t.slot = s.slot
  out : t.out = s.out
  otherOutputs : { t.outputs with hrsp := s.outputs.hrsp } = s.outputs
  otherSignals : { t.signals with slotSet := s.signals.slotSet } = s.signals
  stimuli : t.stimuli = s.stimuli
  cycle : t.cycle = s.cycle

/-- R39, R172 to R177: a host request writes `hrsp`, CMD_LAST and `SLOT_set`, no more. -/
theorem hostStep_sameOutsideHost {s t : State} (h : hostStep s = .next t) : SameOutsideHost s t := by
  simp only [hostStep, decodeHreq] at h
  split at h <;>
    simp only [exec, execNop, execHumRead, execCmdWrite, execCmdOff, execCmdOn, execCmdWriteEmpty, execDiagRead,
      execRsv5, execRsv6, execRsv7, Host.Outcome.next.injEq] at h
  case h_3 =>
    split at h <;> cases h <;> constructor <;> rfl
  all_goals
    subst h
    constructor <;> rfl

/-- R39, R201: what the Actuator Controller leaves alone. -/
structure SameOutsideAct (s t : State) : Prop where
  acqPhase : t.acqPhase = s.acqPhase
  acqCnt : t.acqCnt = s.acqCnt
  frame : t.frame = s.frame
  measT : t.measT = s.measT
  measRH : t.measRH = s.measRH
  tv : t.tv = s.tv
  lastResult : t.lastResult = s.lastResult
  cmdLast : t.cmdLast = s.cmdLast
  slot : t.slot = s.slot
  outputs : t.outputs = s.outputs
  otherSignals : { t.signals with consume := s.signals.consume } = s.signals
  stimuli : t.stimuli = s.stimuli
  cycle : t.cycle = s.cycle

/-- R39, R202, R203: the Actuator Controller writes its own registers and `consume`, no more. -/
theorem actStep_sameOutsideAct (s : State) : SameOutsideAct s s.actStep := by
  unfold State.actStep
  split <;> split <;> constructor <;> rfl

/-- Once for all, what one step can do: a reset cycle, or the three agents in turn and the end of the cycle. -/
theorem step_cases {s t : State} (h : step s = .next t) :
    (s.inputs.rst = true ∧ t = s.resetCycle) ∨
    (s.inputs.rst = false ∧ ∃ u v, hostStep s.beginCycle = .next u ∧ acqStep u = .next v ∧ t = v.actStep.endCycle) := by
  unfold step clockCycle at h
  split at h
  next hr => exact .inl ⟨hr, by simpa using h.symm⟩
  next hr =>
    obtain ⟨u, hu, h2⟩ := andThen_eq_next.mp h
    obtain ⟨v, hv, h3⟩ := andThen_eq_next.mp h2
    exact .inr ⟨by simpa using hr, u, v, hu, hv, by simpa using h3.symm⟩

end Sys2Proof.Machine
end

