-- ==== Sys2Proof/Laws/PerInstr.lean ====
section
/-! SUPPORT. For every operation with an encoding: the word the encoder writes lies in the operation's row of the opcode
table, bits, match and mask (30_encoding.md R83, R85, R87). One lemma per constructor of `Instr`. -/

namespace Sys2Proof.Laws.TableRow

/-- The encoder's word has the width of the operation's row and its match under its mask. -/
def Statement (i : Instr) : Prop :=
  ∀ p, encode i = some p →
    ∃ r, i.tableRow = some r ∧ p.number.1 = r.bits ∧ p.number.2 &&& r.mask = r.matchBits

/-- The mask of the HREQ rows keeps OP alone. -/
theorem hreqWord_mask (op : BitVec 3) (a : BitVec 5) (d : Byte) :
    (hreqWord op a d).toNat &&& 0xE000 = op.toNat * 0x2000 := by
  have h : hreqWord op a d &&& 0xE000#16 = op ++ 0#13 := by
    apply BitVec.eq_of_getLsbD_eq
    intro i hi
    simp only [hreqWord, BitVec.getLsbD_and, BitVec.getLsbD_append]
    interval_cases i <;> simp
  have h2 := congrArg BitVec.toNat h
  rw [BitVec.toNat_and] at h2
  rw [show (0xE000 : Nat) = (0xE000#16).toNat from rfl, h2, BitVec.toNat_append, Nat.shiftLeft_eq]
  simp

theorem hreq_row {i : Instr} {op : BitVec 3} {a : BitVec 5} {d : Byte}
    (he : encode i = some (.hreq (hreqWord op a d))) (hr : i.tableRow = some ⟨16, op.toNat * 0x2000, 0xE000⟩) :
    Statement i := by
  intro p hp
  rw [he] at hp
  cases hp
  exact ⟨_, hr, rfl, hreqWord_mask op a d⟩

theorem internal {i : Instr} (he : encode i = none) : Statement i := by
  intro p hp
  rw [he] at hp
  cases hp

theorem nop (a : BitVec 5) (d : Byte) : Statement (.nop a d) := hreq_row rfl rfl
theorem humRead (a : BitVec 5) (d : Byte) : Statement (.humRead a d) := hreq_row rfl rfl
theorem cmdWrite (a : BitVec 5) (d : Byte) : Statement (.cmdWrite a d) := hreq_row rfl rfl
theorem cmdWriteEmpty (a : BitVec 5) (d : Byte) : Statement (.cmdWriteEmpty a d) := hreq_row rfl rfl
theorem diagRead (a : BitVec 5) (d : Byte) : Statement (.diagRead a d) := hreq_row rfl rfl
theorem rsv5 (a : BitVec 5) (d : Byte) : Statement (.rsv5 a d) := hreq_row rfl rfl
theorem rsv6 (a : BitVec 5) (d : Byte) : Statement (.rsv6 a d) := hreq_row rfl rfl
theorem rsv7 (a : BitVec 5) (d : Byte) : Statement (.rsv7 a d) := hreq_row rfl rfl

theorem cmdOff : Statement .cmdOff := by
  intro p hp
  cases hp
  exact ⟨_, rfl, rfl, rfl⟩

theorem cmdOn (c : Byte) : Statement (.cmdOn c) := by
  intro p hp
  cases hp
  exact ⟨_, rfl, rfl, Nat.and_zero _⟩

theorem trigWrite : Statement .trigWrite := by
  intro p hp
  cases hp
  exact ⟨_, rfl, rfl, rfl⟩

theorem frameRead (f : Frame) : Statement (.frameRead f) := by
  intro p hp
  cases hp
  exact ⟨_, rfl, rfl, Nat.and_zero _⟩

theorem notifyHum (v : U16) : Statement (.notifyHum v) := by
  intro p hp
  cases hp
  exact ⟨_, rfl, rfl, Nat.and_zero _⟩

theorem busReadyCheck : Statement .busReadyCheck := internal rfl
theorem crc8 (bs : List Byte) : Statement (.crc8 bs) := internal rfl
theorem frameCheck : Statement .frameCheck := internal rfl
theorem frameParse : Statement .frameParse := internal rfl
theorem decodeT (r : U16) : Statement (.decodeT r) := internal rfl
theorem decodeRh (r : U16) : Statement (.decodeRh r) := internal rfl
theorem encode (h : U32) : Statement (.encode h) := internal rfl
theorem settleWait : Statement .settleWait := internal rfl
theorem periodWait : Statement .periodWait := internal rfl

end Sys2Proof.Laws.TableRow
end

