-- ==== Sys2Proof/Tests/Slice0.lean ====
section
/-! SUPPORT. Tests: the check of WellFormed, every constructor's word written out from the spec's encoding, one or two
single-operation tests an instruction with values from 95_test_vectors.md, and for every statement with hypotheses a
state and operands that meet them. -/

namespace Sys2Proof.Tests

open Sys2Proof.Machine

/-! ### WellFormed (R85) -/

theorem test_cmdOn_zero_is_ill_formed : (Instr.cmdOn 0x00#8).wellFormed = false := by decide
theorem test_cmdOn_one_is_well_formed : (Instr.cmdOn 0x01#8).wellFormed = true := by decide

/-! ### Decoding: words written out from 30_encoding.md R83, R85, R87, R88, R89 -/

theorem test_decode_nop : decodeHreq 0b000_00000_11111111#16 = .nop 0#5 0xFF#8 := by decide
theorem test_decode_humRead : decodeHreq 0b001_11111_11111111#16 = .humRead 0x1F#5 0xFF#8 := by decide
theorem test_decode_cmdWrite : decodeHreq 0b010_11111_00000111#16 = .cmdWrite 0x1F#5 0x07#8 := by decide
theorem test_decode_cmdWriteEmpty : decodeHreq 0b011_00000_00000000#16 = .cmdWriteEmpty 0#5 0#8 := by decide
theorem test_decode_diagRead : decodeHreq 0b100_00011_00000000#16 = .diagRead 0x03#5 0#8 := by decide
theorem test_decode_rsv5 : decodeHreq 0b101_00000_00000000#16 = .rsv5 0#5 0#8 := by decide
theorem test_decode_rsv6 : decodeHreq 0b110_00000_00000000#16 = .rsv6 0#5 0#8 := by decide
theorem test_decode_rsv7 : decodeHreq 0b111_00001_00100011#16 = .rsv7 0x01#5 0x23#8 := by decide
theorem test_decode_cmdOff : decode (.cmdb 0b00000000#8) = .instr .cmdOff := by decide
theorem test_decode_cmdOn : decode (.cmdb 0b10000000#8) = .instr (.cmdOn 0x80#8) := by decide
theorem test_decode_trigWrite : decode (.busw 0b0010_1100_0000_0110#16) = .instr .trigWrite := by decide
theorem test_decode_foreign_bus_write : decode (.busw 0x2C07#16) = .rejected (.notTheTrigger 0x2C07#16) := by decide
theorem test_decode_frameRead :
    decode (.busr 0xBEEF92431C1B#48) = .instr (.frameRead ⟨0xBE#8, 0xEF#8, 0x92#8, 0x43#8, 0x1C#8, 0x1B#8⟩) := by decide
theorem test_decode_notifyHum : decode (.notif 0x1388#16) = .instr (.notifyHum 0x1388#16) := by decide

/-- R93: the nine internal operations have no word. -/
theorem test_internal_operations_have_no_word :
    [Instr.busReadyCheck, .crc8 [], .frameCheck, .frameParse, .decodeT 0#16, .decodeRh 0#16, .encode 0#32, .settleWait,
      .periodWait].all (fun i => encode i == none) = true := by decide

theorem test_table_words :
    [(16, 0x0000), (16, 0x2000), (16, 0x4000), (16, 0x6000), (16, 0x8000), (16, 0xA000), (16, 0xC000), (16, 0xE000),
      (8, 0x00), (16, 0x2C06)].map (fun p => decodeTableWord p.1 p.2) =
    [some (.nop 0#5 0#8), some (.humRead 0#5 0#8), some (.cmdWrite 0#5 0#8), some (.cmdWriteEmpty 0#5 0#8),
      some (.diagRead 0#5 0#8), some (.rsv5 0#5 0#8), some (.rsv6 0#5 0#8), some (.rsv7 0#5 0#8), some .cmdOff,
      some .trigWrite] := by decide

theorem test_table_word_too_wide : decodeTableWord 8 0x100 = none := by decide

/-! ### Host operations (95_test_vectors.md V7) -/

/-- One part of the next state. -/
def look {α : Type} (o : Host.Outcome State Fault Refusal) (f : State → α) : Option α :=
  match o with
  | .next s => some (f s)
  | .fault _ => none
  | .refused _ => none

/-- A state with these pins in the present cycle. -/
def withPins (i : Inputs) (s : State) : State := { s with stimuli := [i] }

/-- A request in a quiet cycle. -/
def asking (w : U16) : Inputs := { Inputs.idle with hreq := w }

theorem test_nop_answers_zero : look (exec (.nop 0#5 0xFF#8) State.reset) (·.outputs.hrsp) = some 0#32 := by decide
theorem test_humRead_4567 :
    look (exec (.humRead 0#5 0#8) { State.reset with tv := 4567#16 }) (·.outputs.hrsp) = some 0x000011D7#32 := by decide
theorem test_cmdWrite_7 :
    look (step (withPins (asking 0x5F07#16) State.reset)) (fun t => (t.cmdLast, t.slot)) =
      some (0x07#8, ⟨true, .on⟩) := by decide
theorem test_cmdWrite_replaces_pending_off :
    look (step (withPins (asking 0x4001#16) { State.reset with slot := ⟨true, .off⟩ })) (·.slot) =
      some ⟨true, .on⟩ := by decide
theorem test_cmdWriteEmpty_keeps_slot :
    look (step (withPins (asking 0x6000#16) { State.reset with
      slot := ⟨true, .on⟩, actState := .driving, out := false })) (·.slot) = some ⟨true, .on⟩ := by decide
theorem test_diagRead_status :
    look (exec (.diagRead 0x00#5 0#8) State.reset) (·.outputs.hrsp) = some 0x00000400#32 := by decide
theorem test_diagRead_reserved :
    look (exec (.diagRead 0x05#5 0#8) { State.reset with measT := 0x41C80000#32 }) (·.outputs.hrsp) =
      some 0#32 := by decide
theorem test_rsv5_answers_zero : look (exec (.rsv5 0#5 0#8) State.reset) (·.cmdLast) = some 0#8 := by decide
theorem test_rsv6_answers_zero : look (exec (.rsv6 0#5 0#8) State.reset) (·.slot) = some ⟨false, .off⟩ := by decide
theorem test_rsv7_answers_zero :
    look (step (withPins (asking 0xE123#16) State.reset)) (·.outputs.hrsp) = some 0#32 := by decide
theorem test_cmdOff_asks_off : look (exec .cmdOff State.reset) (·.signals.slotSet) = some (some .off) := by decide
theorem test_cmdOn_asks_on :
    look (exec (.cmdOn 0x30#8) State.reset) (·.signals.slotSet) = some (some .on) := by decide

/-- 95_test_vectors.md, STATUS decoding examples. -/
theorem test_status_examples :
    ({ State.reset with
        slot := ⟨true, .on⟩
        out := false
        actState := .driving
        acqPhase := .sleep
        lastResult := .busNotReady } : State).status = 0x00001952#32 ∧
    ({ State.reset with
        slot := ⟨false, .on⟩
        actCmd := .on
        acqPhase := .wr
        lastResult := .readFailed } : State).status = 0x00001614#32 := by decide

/-! ### Sequencer -/

theorem test_busReadyCheck_not_ready :
    look (exec .busReadyCheck (withPins { Inputs.idle with busReady := false } State.reset))
      (fun t => (t.acqPhase, t.lastResult, t.outputs.diag)) = some (.sleep, .busNotReady, some .busNotReady) := by decide
theorem test_trigWrite_goes_to_wr :
    look (exec .trigWrite (withPins Inputs.idle State.reset)) (·.acqPhase) = some .wr := by decide
theorem test_trigWrite_bytes :
    look (exec .trigWrite (withPins Inputs.idle State.reset)) (·.outputs.busReq) =
      some (some (.write Config.sensorAddr [0x2C#8, 0x06#8])) := rfl
theorem test_write_fails :
    look (step (withPins { Inputs.idle with busRsp := .wrDone false } { State.reset with acqPhase := .wr }))
      (·.lastResult) = some .writeFailed := by decide
theorem test_settleWait_last_cycle :
    look (exec .settleWait { State.reset with acqPhase := .settle, acqCnt := 1 }) (·.acqPhase) =
      some .rd := by decide
theorem test_periodWait_last_cycle :
    look (exec .periodWait { State.reset with acqPhase := .sleep, acqCnt := 1 }) (·.acqPhase) =
      some .start := by decide

/-- 95_test_vectors.md V2.1 and V2.2. -/
def goodFrame : Frame := ⟨0x66#8, 0x66#8, 0x93#8, 0x80#8, 0x00#8, 0xA2#8⟩
def badFrame : Frame := ⟨0x66#8, 0x66#8, 0x93#8, 0x80#8, 0x01#8, 0xA2#8⟩

theorem test_frameRead_latches :
    look (exec (.frameRead goodFrame) { State.reset with acqPhase := .rd }) (fun t => (t.frame, t.acqPhase)) =
      some (goodFrame, .eval) := by decide
theorem test_frameRead_stray_ignored :
    look (exec (.frameRead goodFrame) { State.reset with acqPhase := .wr }) (fun t => (t.frame, t.acqPhase)) =
      some (State.reset.frame, .wr) := by decide
/-- 95_test_vectors.md program P1, cycle 23. -/
theorem test_eval_accepts :
    look (step (withPins (asking 0x2000#16) { State.reset with acqPhase := .eval, frame := goodFrame }))
      (fun t => (t.measT, t.measRH, t.outputs.notify, t.outputs.hrsp)) =
      some (0x41C80000#32, 0x424800C8#32, some 5000#16, 0#32) := by decide +kernel
/-- 95_test_vectors.md program P3, cycle 23. -/
theorem test_eval_rejects :
    look (step (withPins (asking 0x2000#16) { State.reset with acqPhase := .eval, frame := badFrame }))
      (fun t => (t.tv, t.outputs.notify, t.lastResult)) = some (0#16, none, .checksumMismatch) := by decide +kernel

/-! ### Codec and encoder (95_test_vectors.md V1 to V4) -/

theorem test_crc8_beef : look (exec (.crc8 [0xBE#8, 0xEF#8]) State.reset) (·.signals.crc) = some 0x92#8 := by decide +kernel
theorem test_crc8_empty : look (exec (.crc8 []) State.reset) (·.signals.crc) = some 0xFF#8 := by decide
theorem test_frameCheck_good :
    look (exec .frameCheck { State.reset with frame := goodFrame }) (·.signals.frameOk) = some true := by decide +kernel
theorem test_frameCheck_bad :
    look (exec .frameCheck { State.reset with frame := badFrame }) (·.signals.frameOk) = some false := by decide +kernel
theorem test_frameParse_big_endian :
    look (exec .frameParse { State.reset with frame := ⟨0xBE#8, 0xEF#8, 0x92#8, 0x43#8, 0x1C#8, 0x1B#8⟩ })
      (fun t => (t.signals.rawT, t.signals.rawRH)) = some (48879#16, 0x431C#16) := by decide
theorem test_decodeT_beef :
    look (exec (.decodeT 0xBEEF#16) State.reset) (·.signals.t) = some 0x42AB0BC7#32 := by decide +kernel
theorem test_decodeT_negative :
    look (exec (.decodeT 0x4000#16) State.reset) (·.signals.t) = some 0xBF9FEA20#32 := by decide +kernel
theorem test_decodeRh_431C :
    look (exec (.decodeRh 0x431C#16) State.reset) (·.signals.h) = some 0x41D1B852#32 := by decide +kernel
theorem test_decodeRh_zero :
    look (exec (.decodeRh 0x0000#16) State.reset) (·.signals.h) = some 0#32 := by decide +kernel
theorem test_encode_tie_goes_away_from_zero :
    look (exec (.encode 0x3E000000#32) State.reset) (·.signals.v) = some 13#16 := by decide +kernel
theorem test_encode_negative_wraps :
    look (exec (.encode 0xC236AE14#32) State.reset) (·.signals.v) = some 60969#16 := by decide +kernel
theorem test_encode_nan_is_the_parameter :
    look (exec (.encode 0x7FC00000#32) State.reset) (·.signals.v) = some Config.encNonfinite := rfl
theorem test_notifyHum_strobes :
    look (exec (.notifyHum 5000#16) { State.reset with
      acqPhase := .eval, signals := { Signals.clear with frameOk := true } }) (·.outputs.notify) =
      some (some 5000#16) := by decide

/-! ### Actuator and reset (95_test_vectors.md V8) -/

theorem test_idle_starts_pulse :
    look (step (withPins Inputs.idle { State.reset with slot := ⟨true, .on⟩ }))
      (fun t => (t.actState, t.out, t.actCmd, t.slot)) = some (.driving, false, .on, ⟨false, .on⟩) := by decide
/-- V8.8: the write wins the slot, and the old command runs. -/
theorem test_write_and_consume_in_one_cycle :
    look (step (withPins (asking 0x4001#16) { State.reset with slot := ⟨true, .off⟩ }))
      (fun t => (t.actCmd, t.slot)) = some (.off, ⟨true, .on⟩) := by decide
/-- V8.9. -/
theorem test_reset_ends_pulse :
    look (step (withPins { Inputs.idle with rst := true } { State.reset with actState := .driving, out := false }))
      (fun t => (t.actState, t.out, t.outputs.actOut)) = some (.idle, true, true) := by decide

/-! ### What the host asks of `withFetchWord` (log 14) -/

theorem test_fetch_hreq : look (step (State.reset.withFetchWord 16 0x8000)) (·.outputs.hrsp) = some 0x400#32 := by decide
theorem test_fetch_command_byte :
    look (step (State.reset.withFetchWord 8 0x00)) (·.slot) = some ⟨true, .off⟩ := by decide
theorem test_fetch_trigger : look (step (State.reset.withFetchWord 16 0x2C06)) (·.acqPhase) = some .wr := by decide
theorem test_fetch_frame :
    look (step (State.reset.withFetchWord 48 0x6666938000A2)) (·.frame) = some goodFrame := by decide

/-! ### Scripts (R94, R95) -/

theorem test_script_levels :
    (scriptStimuli [(0, .ready false), (1, .diagRead 0x02#5), (2, .cmdOnPseudo), (2, .wrDone true)] 3) =
      [⟨false, false, .none, 0x0000#16⟩, ⟨false, false, .none, 0x8200#16⟩, ⟨false, false, .wrDone true, 0x4001#16⟩] := by
  decide

/-! ### Witnesses: for every statement with hypotheses, what meets them -/

/-- A state whose next `n` cycles have idle pins. -/
def quiet (n : Nat) (s : State) : State := { s with stimuli := List.replicate n Inputs.idle }

theorem quiet_inputAt {n j : Nat} (s : State) (h : j < n) : (quiet n s).inputAt j = Inputs.idle := by
  simp [quiet, State.inputAt, h]

theorem quiet_noReset (n : Nat) (s : State) : (quiet n s).noReset n := by
  intro j h
  rw [quiet_inputAt s h]
  rfl

theorem witness_DecodeOfEncodeIsTheOperation :
    (Instr.cmdOn 0x01#8).wellFormed = true ∧ encode (.cmdOn 0x01#8) = some (.cmdb 0x01#8) := by decide

theorem witness_EncodeOfDecodeIsTheWord :
    decode (.hreq 0x9F00#16) = .instr (.diagRead 0x1F#5 0#8) ∧ decode (.cmdb 0x00#8) = .instr .cmdOff := by decide

theorem witness_HreqRowsSplitTheWordSpace :
    (decodeHreq 0xFFFF#16).tableRow = some ⟨16, 0xE000, 0xE000⟩ ∧ (0xFFFF#16).toNat &&& 0xE000 = 0xE000 := by decide

theorem witness_StepRunsTheDecodedRequest :
    ((withPins (asking 0x5F07#16) State.reset).inputs.rst = false ∧
      decodeHreq (withPins (asking 0x5F07#16) State.reset).inputs.hreq = .cmdWrite 0x1F#5 0x07#8) ∧
    (0xFFFF < 2 ^ 16 ∧ 0xFFFF ≠ 0x2C06 ∧ decodeTableWord 16 0xFFFF = some (.rsv7 0x1F#5 0xFF#8)) ∧
    (0x00 < 2 ^ 8 ∧ decodeTableWord 8 0x00 = some .cmdOff) ∧ decodeTableWord 8 0xFF = some (.cmdOn 0xFF#8) := by decide

/-- For PlacedBusPatternsRunInTheSequencer: the least and the greatest frame. -/
theorem witness_PlacedBusPatternsRunInTheSequencer :
    0 < 2 ^ 48 ∧ decodeTableWord 48 0 = some (.frameRead ⟨0#8, 0#8, 0#8, 0#8, 0#8, 0#8⟩) ∧
    0xFFFFFFFFFFFF < 2 ^ 48 ∧
    decodeTableWord 48 0xFFFFFFFFFFFF = some (.frameRead ⟨0xFF#8, 0xFF#8, 0xFF#8, 0xFF#8, 0xFF#8, 0xFF#8⟩) := by decide

theorem witness_SequencerRunsThePhaseOperations :
    State.reset.acqPhase = .start ∧
    ({ State.reset with acqPhase := .settle } : State).acqPhase = .settle ∧
    ((withPins { Inputs.idle with busRsp := .rdDone true goodFrame } { State.reset with acqPhase := .rd }).acqPhase = .rd ∧
      (withPins { Inputs.idle with busRsp := .rdDone true goodFrame } { State.reset with acqPhase := .rd }).inputs.busRsp =
        .rdDone true goodFrame) ∧
    ({ State.reset with acqPhase := .eval } : State).acqPhase = .eval ∧
    ({ State.reset with acqPhase := .sleep } : State).acqPhase = .sleep := by decide

theorem witness_cycle_with_and_without_reset :
    (withPins { Inputs.idle with rst := true } State.reset).inputs.rst = true ∧
    (withPins Inputs.idle State.reset).inputs.rst = false := by decide

/-- For ResetLeavesTheResetState: a reserved address and the last one in use. -/
theorem witness_diag_addresses : (0x1F#5 ≠ 0#5) ∧ (0x04#5 ≠ 0#5) := by decide

/-- For EveryStepKeepsTheInvariants: a state in SLEEP with a pulse running and a Measurement. -/
theorem witness_EveryStepKeepsTheInvariants :
    ({ State.reset with
        acqPhase := .sleep
        acqCnt := periodCycles
        actState := .driving
        actCnt := dur .off
        out := false
        tv := 10000#16
        measRH := 0x42C80000#32
        lastResult := .ok } : State).Inv where
  settleCount := by simp
  acqWidth := lt_two_pow_wAcq (Nat.le_refl _)
  actWidth := lt_two_pow_wAct (Nat.le_refl _)
  sleepCount := fun _ => ⟨periodCycles_pos, Nat.le_refl _⟩
  drivingLow := fun _ => ⟨rfl, dur_pos .off, Nat.le_refl _⟩
  idleHigh := by simp
  tvRange := by decide
  humidityRange := by
    unfold humidityInRange
    decide +kernel

/-- For NoneLastsUntilAnIterationEnds: the NONE state, and a cycle that ends an iteration. -/
theorem witness_NoneLastsUntilAnIterationEnds :
    (withPins Inputs.idle State.reset).inputs.rst = false ∧ State.reset.lastResult = .none ∧
    look (step (withPins { Inputs.idle with busReady := false } State.reset)) (·.outputs.diag) =
      some (some .busNotReady) := by decide

/-- For RequestsWithoutEffectAnswerZero, HumReadAnswersTv, DiagReadAnswersTheMap, CommandWriteFillsTheSlot: a word of
each row, the least and the greatest. -/
theorem witness_hreq_words :
    [0x0000#16, 0x1FFF#16].map hreqOp = [0b000#3, 0b000#3] ∧ [0x2000#16, 0x3FFF#16].map hreqOp = [0b001#3, 0b001#3] ∧
    [0x4000#16, 0x5FFF#16].map hreqOp = [0b010#3, 0b010#3] ∧ [0x6000#16, 0x7FFF#16].map hreqOp = [0b011#3, 0b011#3] ∧
    [0x8000#16, 0x9FFF#16].map hreqOp = [0b100#3, 0b100#3] ∧ [0xA000#16, 0xBFFF#16].map hreqOp = [0b101#3, 0b101#3] ∧
    [0xC000#16, 0xDFFF#16].map hreqOp = [0b110#3, 0b110#3] ∧ [0xE000#16, 0xFFFF#16].map hreqOp = [0b111#3, 0b111#3] := by
  decide

/-- For the step clauses of HumReadAnswersTv (in and out of EVAL), DiagReadAnswersTheMap, CommandWriteFillsTheSlot and
RequestsChangeOnlyWhatTheySay. -/
theorem witness_requests_in_a_cycle :
    (∀ w ∈ [0x2000#16, 0x8000#16, 0x9F00#16, 0x4000#16, 0x40FF#16, 0xE123#16],
      (withPins (asking w) State.reset).inputs.rst = false ∧ (withPins (asking w) State.reset).inputs.hreq = w) ∧
    State.reset.acqPhase ≠ .eval ∧ frameValid badFrame = false :=
  ⟨fun _ _ => ⟨rfl, rfl⟩, by decide, by decide +kernel⟩

/-- For the run clause of HumReadAnswersTv: a cycle in START. -/
theorem witness_HumReadAnswersTv_run :
    (withPins Inputs.idle State.reset).noReset 1 ∧
    ∀ k < 1, ∀ u, Runs (withPins Inputs.idle State.reset) k u →
      ¬(u.acqPhase = .eval ∧ frameValid u.frame = true) := by
  refine ⟨fun j h => by obtain rfl : j = 0 := (by omega); rfl, fun k h u r => ?_⟩
  obtain rfl : k = 0 := by omega
  cases r
  exact fun h => absurd h.1 (by decide)

theorem witness_CommandByteAsksForItsSequence : (0x01#8 ≠ 0x00#8) ∧ (0xFF#8 ≠ 0x00#8) := by decide

/-- For StartOperations, StartCycle, ErrorsHaveTheirCauses and BusRequestsAreTheTwoOfTheSpec: START with the bus ready
and not ready. -/
theorem witness_StartCycle :
    (withPins Inputs.idle State.reset).acqPhase = .start ∧ (withPins Inputs.idle State.reset).inputs.rst = false ∧
    (withPins Inputs.idle State.reset).inputs.busReady = true ∧
    (withPins { Inputs.idle with busReady := false } State.reset).acqPhase = .start ∧
    (withPins { Inputs.idle with busReady := false } State.reset).inputs.rst = false ∧
    (withPins { Inputs.idle with busReady := false } State.reset).inputs.busReady = false := by decide

/-- For WrCycle: WR with each kind of response. -/
theorem witness_WrCycle :
    ∀ r ∈ [BusRsp.wrDone true, .wrDone false, .none, .rdDone true goodFrame],
      (withPins { Inputs.idle with busRsp := r } { State.reset with acqPhase := .wr }).acqPhase = .wr ∧
      (withPins { Inputs.idle with busRsp := r } { State.reset with acqPhase := .wr }).inputs.rst = false ∧
      (withPins { Inputs.idle with busRsp := r } { State.reset with acqPhase := .wr }).inputs.busRsp = r :=
  fun _ _ => ⟨rfl, rfl, rfl⟩

/-- For RdCycle and FrameReadLatchesTheFrame: RD with each kind of response. -/
theorem witness_RdCycle :
    ∀ r ∈ [BusRsp.rdDone true goodFrame, .rdDone false goodFrame, .none, .wrDone true],
      (withPins { Inputs.idle with busRsp := r } { State.reset with acqPhase := .rd }).acqPhase = .rd ∧
      (withPins { Inputs.idle with busRsp := r } { State.reset with acqPhase := .rd }).inputs.rst = false ∧
      (withPins { Inputs.idle with busRsp := r } { State.reset with acqPhase := .rd }).inputs.busRsp = r :=
  fun _ _ => ⟨rfl, rfl, rfl⟩

/-- For EvalCycle and NotifyExactlyOnSuccess: EVAL with a frame that passes and one that fails. -/
theorem witness_EvalCycle :
    (∀ f ∈ [goodFrame, badFrame],
      (withPins Inputs.idle { State.reset with acqPhase := .eval, frame := f }).acqPhase = .eval ∧
      (withPins Inputs.idle { State.reset with acqPhase := .eval, frame := f }).inputs.rst = false) ∧
    frameValid goodFrame = true ∧ frameValid badFrame = false :=
  ⟨fun _ _ => ⟨rfl, rfl⟩, by decide +kernel, by decide +kernel⟩

/-- A state with `n` cycles to run in phase `p`. -/
def counting (p : Phase) (n : Nat) : State := { State.reset with acqPhase := p, acqCnt := n }

/-- For SettleWaitCountsDown and PeriodWaitCountsDown: the counts 1, 2 and 0 in each phase. -/
theorem witness_counts :
    (counting .settle 1).acqPhase = .settle ∧ (counting .settle 1).acqCnt = 1 ∧
    2 ≤ (counting .settle 2).acqCnt ∧ (counting .settle 0).acqCnt = 0 ∧
    (counting .sleep 1).acqPhase = .sleep ∧ (counting .sleep 1).acqCnt = 1 ∧
    2 ≤ (counting .sleep 2).acqCnt ∧ (counting .sleep 0).acqCnt = 0 := by decide

/-- For SettlingDelayIsExact: one cycle to run, and the whole delay. -/
theorem witness_SettlingDelayIsExact :
    ((quiet 1 (counting .settle 1)).acqPhase = .settle ∧ (quiet 1 (counting .settle 1)).acqCnt = 1 ∧
      (quiet 1 (counting .settle 1)).noReset 1) ∧
    ((quiet settleCycles (counting .settle settleCycles)).acqPhase = .settle ∧
      (quiet settleCycles (counting .settle settleCycles)).acqCnt = settleCycles ∧ 1 ≤ settleCycles ∧
      (quiet settleCycles (counting .settle settleCycles)).noReset settleCycles) :=
  ⟨⟨rfl, rfl, quiet_noReset _ _⟩, rfl, rfl, settleCycles_pos, quiet_noReset _ _⟩

/-- For EveryIterationEndIsFollowedByTheGap: a cycle that ends an iteration, with no reset in the gap. -/
theorem witness_EveryIterationEndIsFollowedByTheGap :
    ∃ s t : State, s.inputs.rst = false ∧ step s = .next t ∧ t.outputs.diag ≠ none ∧ t.noReset (1000 * Config.cpm) := by
  refine ⟨{ State.reset with
    stimuli := { Inputs.idle with busReady := false } :: List.replicate (1000 * Config.cpm) Inputs.idle },
    _, rfl, rfl, ?_, ?_⟩
  · exact Option.some_ne_none Result.busNotReady
  · exact fun j h => by simp [State.inputAt, h, State.goto, State.actStep,
      State.endCycle, State.advanceInputs, State.endIter, State.loadAcqCnt, State.diagEvent, State.reset,
      State.stayIdle, State.respond, State.beginCycle, Inputs.idle]

/-- For UnawaitedResponsesAreIgnored: the wrong kind of response, and one in a phase that waits for none. -/
theorem witness_UnawaitedResponsesAreIgnored :
    (∃ s : State, s.acqPhase = .wr ∧ s.inputs.busRsp = .rdDone true goodFrame ∧ s.accepts s.inputs.busRsp = false) ∧
    ∃ s : State, s.acqPhase = .settle ∧ s.inputs.busRsp = .wrDone true ∧ s.accepts s.inputs.busRsp = false :=
  ⟨⟨withPins { Inputs.idle with busRsp := .rdDone true goodFrame } { State.reset with acqPhase := .wr }, rfl, rfl, rfl⟩,
    ⟨withPins { Inputs.idle with busRsp := .wrDone true } { State.reset with acqPhase := .settle }, rfl, rfl, rfl⟩⟩

/-- For UnansweredRequestHangsTheLoop: WR and RD, with three cycles of no response. -/
theorem witness_UnansweredRequestHangsTheLoop :
    ∀ p ∈ [Phase.wr, Phase.rd],
      (quiet 3 { State.reset with acqPhase := p }).outstanding = true ∧
      (quiet 3 { State.reset with acqPhase := p }).noReset 3 ∧
      ∀ j < 3, (quiet 3 { State.reset with acqPhase := p }).accepts
        ((quiet 3 { State.reset with acqPhase := p }).inputAt j).busRsp = false := by
  intro p hp
  refine ⟨?_, quiet_noReset _ _, fun j h => ?_⟩
  · simp only [List.mem_cons, List.not_mem_nil, or_false] at hp
    rcases hp with rfl | rfl <;> rfl
  · rw [quiet_inputAt _ h]
    rfl

/-- Inputs of one successful iteration with both latencies 1, and of the gap after it. -/
def iterationInputs : List Inputs :=
  Inputs.idle :: { Inputs.idle with busRsp := .wrDone true } ::
    (List.replicate (20 * Config.cpm) Inputs.idle ++
      { Inputs.idle with busRsp := .rdDone true goodFrame } ::
        List.replicate (1000 * Config.cpm + 1) Inputs.idle)

theorem witness_SuccessfulIterationPeriod :
    ∃ s : State, s.acqPhase = .start ∧ frameValid goodFrame = true ∧
      s.noReset (1 + 1 + 20 * Config.cpm + 1000 * Config.cpm + 2) ∧ s.inputs.busReady = true ∧
      (∀ j, 1 ≤ j → j < 1 → ∀ ok, (s.inputAt j).busRsp ≠ .wrDone ok) ∧ (s.inputAt 1).busRsp = .wrDone true ∧
      (∀ j, 1 + 20 * Config.cpm < j → j < 1 + 20 * Config.cpm + 1 → ∀ ok g, (s.inputAt j).busRsp ≠ .rdDone ok g) ∧
      (s.inputAt (1 + 20 * Config.cpm + 1)).busRsp = .rdDone true goodFrame := by
  refine ⟨{ State.reset with stimuli := iterationInputs }, rfl, by decide +kernel, ?_, rfl, by omega, rfl, by omega, ?_⟩
  · intro j h
    have hall : ∀ i ∈ iterationInputs, i.rst = false := by
      intro i hi
      simp only [iterationInputs, List.mem_cons, List.mem_append, List.mem_replicate] at hi
      rcases hi with rfl | rfl | ⟨-, rfl⟩ | rfl | ⟨-, rfl⟩ <;> rfl
    have hlen : j < iterationInputs.length := by
      simp only [iterationInputs, List.length_cons, List.length_append, List.length_replicate]
      omega
    simp only [State.inputAt, List.getElem?_eq_getElem hlen]
    exact hall _ (List.getElem_mem hlen)
  · have h : iterationInputs[1 + 20 * Config.cpm + 1]? =
        some { Inputs.idle with busRsp := .rdDone true goodFrame } := by
      rw [show 1 + 20 * Config.cpm + 1 = 20 * Config.cpm + 1 + 1 by omega]
      simp [iterationInputs]
    simp [State.inputAt, h]

theorem witness_SequencerOperationsKeepToTheirPhase :
    ({ State.reset with acqPhase := .wr } : State).acqPhase ≠ .start ∧ State.reset.acqPhase ≠ .settle ∧
    State.reset.acqPhase ≠ .rd ∧ State.reset.acqPhase ≠ .sleep ∧ State.reset.acqPhase ≠ .eval := by decide

theorem witness_EverySingleBitFlipIsDetected : frameValid goodFrame = true ∧ 0 < 24 ∧ 23 < 24 ∧ 0 < 48 ∧ 47 < 48 := by
  decide +kernel

/-- For TemperatureIsTheNearestBinary32, HumidityIsTheNearestBinary32 and EncodeRoundsTheExactProduct: the greatest
finite pattern, both zeros, and the least pattern with exponent field 0xFF. -/
theorem witness_finite_patterns :
    isFinite 0x7F7FFFFF#32 = true ∧ isFinite 0x00000000#32 = true ∧ isFinite 0x80000000#32 = true ∧
    expField 0x7F800000#32 = 0xFF := by decide

theorem witness_TelemetryOnTheOwnPath :
    (0x0000#16).toNat ≤ (0xFFFF#16).toNat ∧
    (17181#16).toNat ∉ [17180, 22141, 25326, 27102, 30287, 35248, 38433, 40209] := by decide

theorem witness_NotifyHumStrobes :
    ({ State.reset with acqPhase := .eval, signals := { Signals.clear with frameOk := true } } : State).acqPhase = .eval ∧
    ({ State.reset with acqPhase := .eval, signals := { Signals.clear with frameOk := true } } : State).signals.frameOk =
      true := by decide

/-- For IdleCycleStartsThePulse and SlotMerge: IDLE with a pending command, and with none. -/
theorem witness_IdleCycleStartsThePulse :
    ∀ v ∈ [true, false],
      (withPins Inputs.idle { State.reset with slot := ⟨v, .on⟩ }).inputs.rst = false ∧
      (withPins Inputs.idle { State.reset with slot := ⟨v, .on⟩ }).actState = .idle ∧
      (withPins Inputs.idle { State.reset with slot := ⟨v, .on⟩ }).slot.valid = v := by decide

/-- For the collision clause of SlotMerge: a CMD_WRITE in the cycle that consumes a pending command. -/
theorem witness_SlotMerge_collision :
    (withPins (asking 0x4000#16) { State.reset with slot := ⟨true, .on⟩ }).inputs.rst = false ∧
    hreqOp (withPins (asking 0x4000#16) { State.reset with slot := ⟨true, .on⟩ }).inputs.hreq = 0b010#3 ∧
    (withPins (asking 0x4000#16) { State.reset with slot := ⟨true, .on⟩ }).actState = .idle ∧
    (withPins (asking 0x4000#16) { State.reset with slot := ⟨true, .on⟩ }).slot.valid = true := by decide

/-- A pulse with `n` cycles to run and a command pending behind it. -/
def pulsing (n : Nat) : State :=
  { State.reset with
    actState := .driving, out := false, actCmd := .on, actCnt := n, slot := ⟨true, .off⟩ }

/-- For DrivingCycleHoldsOrEnds: the counts 1, 2 and 0, under a NOP. -/
theorem witness_DrivingCycleHoldsOrEnds :
    (quiet 1 (pulsing 1)).inputs.rst = false ∧ (quiet 1 (pulsing 1)).actState = .driving ∧
    (quiet 1 (pulsing 1)).actCnt = 1 ∧ 2 ≤ (quiet 1 (pulsing 2)).actCnt ∧ (quiet 1 (pulsing 0)).actCnt ≠ 1 ∧
    hreqOp (quiet 1 (pulsing 2)).inputs.hreq ≠ 0b010#3 :=
  ⟨rfl, rfl, rfl, by simp [quiet, pulsing], by simp [quiet, pulsing], by decide⟩

/-- For PulseTiming: a pending command, and a CMD_WRITE to an idle controller with an empty slot. -/
theorem witness_PulseTiming :
    (∃ s : State, s.actState = .idle ∧ s.slot.valid = true ∧ s.noReset (dur s.slot.cmd + 1)) ∧
    ∃ s : State, s.actState = .idle ∧ s.slot.valid = false ∧ hreqOp s.inputs.hreq = 0b010#3 ∧
      Command.on = decodeCmd (hreqData s.inputs.hreq) ∧ s.noReset (dur .on + 2) := by
  refine ⟨⟨quiet (dur .off + 1) { State.reset with slot := ⟨true, .off⟩ }, rfl, rfl, quiet_noReset _ _⟩,
    ⟨{ State.reset with stimuli := asking 0x4001#16 :: List.replicate (dur .on + 1) Inputs.idle }, rfl, rfl, by decide,
      by decide, ?_⟩⟩
  intro j h
  cases j with
  | zero => rfl
  | succ j =>
    have hj : j < dur .on + 1 := by omega
    simp [State.inputAt, hj, Inputs.idle]

/-- For PendingCommandWaitsForThePulse: the last cycle of a pulse, and a whole one. -/
theorem witness_PendingCommandWaitsForThePulse :
    ((quiet 2 (pulsing 1)).actCnt = 1 ∧ (quiet 2 (pulsing 1)).noReset 2 ∧
      ∀ j < 1, hreqOp ((quiet 2 (pulsing 1)).inputAt j).hreq ≠ 0b010#3) ∧
    ((quiet (dur .on + 1) (pulsing (dur .on))).actState = .driving ∧
      (quiet (dur .on + 1) (pulsing (dur .on))).actCnt = dur .on ∧ 1 ≤ dur .on ∧
      (quiet (dur .on + 1) (pulsing (dur .on))).slot.valid = true ∧
      (quiet (dur .on + 1) (pulsing (dur .on))).noReset (dur .on + 1) ∧
      ∀ j < dur .on, hreqOp ((quiet (dur .on + 1) (pulsing (dur .on))).inputAt j).hreq ≠ 0b010#3) := by
  refine ⟨⟨rfl, quiet_noReset _ _, fun j h => ?_⟩,
    rfl, rfl, dur_pos _, rfl, quiet_noReset _ _, fun j h => ?_⟩
  · rw [quiet_inputAt _ (by omega)]
    decide
  · rw [quiet_inputAt _ (by omega)]
    decide

/-- For LoopAndActuatorAreIndependent: states that differ in the actuator and the request, and states that differ in the
loop. -/
theorem witness_LoopAndActuatorAreIndependent :
    ∃ s s' : State, s.inputs.rst = false ∧ s'.inputs.rst = false ∧ s.acqPhase = s'.acqPhase ∧ s.acqCnt = s'.acqCnt ∧
      s.frame = s'.frame ∧ s.measT = s'.measT ∧ s.measRH = s'.measRH ∧ s.tv = s'.tv ∧ s.lastResult = s'.lastResult ∧
      s.inputs.busReady = s'.inputs.busReady ∧ s.inputs.busRsp = s'.inputs.busRsp ∧ s.slot ≠ s'.slot :=
  ⟨withPins (asking 0x4000#16) { State.reset with slot := ⟨true, .on⟩ }, withPins Inputs.idle State.reset,
    rfl, rfl, rfl, rfl, rfl, rfl, rfl, rfl, rfl, rfl, rfl, by decide⟩

theorem witness_LoopAndActuatorAreIndependent_actuator :
    ∃ s s' : State, s.inputs.rst = false ∧ s'.inputs.rst = false ∧ s.actState = s'.actState ∧ s.actCnt = s'.actCnt ∧
      s.actCmd = s'.actCmd ∧ s.slot = s'.slot ∧ s.out = s'.out ∧ s.acqPhase ≠ s'.acqPhase :=
  ⟨withPins Inputs.idle { State.reset with acqPhase := .eval }, withPins (asking 0x4000#16) State.reset,
    rfl, rfl, rfl, rfl, rfl, rfl, rfl, by decide⟩

end Sys2Proof.Tests
end

/-! SUPPORT. What each agent of a cycle does, as one function or one equation: the Acquisition Loop over its phases, the
decoded host request, and the cycle made of the three (10_state.md R39). Later proofs cite these and do not open the
chains of `exec` again. -/

namespace Sys2Proof.Machine

/-! ### The Acquisition Loop as one function (R230 to R236) -/

/-- R112 to R117, R151: the signals an accepted frame leaves behind. -/
def State.convertFrame (s : State) : State :=
  { s with signals := { s.signals with
      crc := crc8 [s.frame.f3, s.frame.f4]
      frameOk := true
      rawT := frameRawT s.frame
      rawRH := frameRawRH s.frame
      t := decodeTemperature (frameRawT s.frame)
      h := decodeHumidity (frameRawRH s.frame)
      v := tvOf (frameRawRH s.frame) } }

/-- R235: EVAL with a frame that passes the check. -/
def State.acceptFrame (s : State) : State :=
  ((s.convertFrame.commit (decodeTemperature (frameRawT s.frame)) (decodeHumidity (frameRawRH s.frame))
    (tvOf (frameRawRH s.frame))).notify (tvOf (frameRawRH s.frame))).endIter .ok

/-- R235: EVAL with a frame that fails the check. -/
def State.rejectFrame (s : State) : State :=
  { s with signals := { s.signals with crc := crc8 [s.frame.f3, s.frame.f4], frameOk := false } }.endIter
    .checksumMismatch

namespace State

variable (s : State)

@[simp] theorem acceptFrame_acqPhase : s.acceptFrame.acqPhase = .sleep := rfl
@[simp] theorem acceptFrame_acqCnt : s.acceptFrame.acqCnt = periodCycles := rfl
@[simp] theorem acceptFrame_frame : s.acceptFrame.frame = s.frame := rfl
@[simp] theorem acceptFrame_measT : s.acceptFrame.measT = decodeTemperature (frameRawT s.frame) := rfl
@[simp] theorem acceptFrame_measRH : s.acceptFrame.measRH = decodeHumidity (frameRawRH s.frame) := rfl
@[simp] theorem acceptFrame_tv : s.acceptFrame.tv = tvOf (frameRawRH s.frame) := rfl
@[simp] theorem acceptFrame_lastResult : s.acceptFrame.lastResult = .ok := rfl
@[simp] theorem acceptFrame_outputs : s.acceptFrame.outputs =
    { s.outputs with notify := some (tvOf (frameRawRH s.frame)), diag := some .ok } := rfl

@[simp] theorem rejectFrame_acqPhase : s.rejectFrame.acqPhase = .sleep := rfl
@[simp] theorem rejectFrame_acqCnt : s.rejectFrame.acqCnt = periodCycles := rfl
@[simp] theorem rejectFrame_frame : s.rejectFrame.frame = s.frame := rfl
@[simp] theorem rejectFrame_measT : s.rejectFrame.measT = s.measT := rfl
@[simp] theorem rejectFrame_measRH : s.rejectFrame.measRH = s.measRH := rfl
@[simp] theorem rejectFrame_tv : s.rejectFrame.tv = s.tv := rfl
@[simp] theorem rejectFrame_lastResult : s.rejectFrame.lastResult = .checksumMismatch := rfl
@[simp] theorem rejectFrame_outputs :
    s.rejectFrame.outputs = { s.outputs with diag := some .checksumMismatch } := rfl

end State

/-- R234: phase RD, by the response on the pins. -/
def State.readNext (s : State) : State :=
  match s.inputs.busRsp with
  | .rdDone true f => (s.latchFrame f).goto .eval
  | .rdDone false _ => s.endIter .readFailed
  | .none => s
  | .wrDone _ => s

/-- R230 to R236: the state the Acquisition Loop leaves, by its phase. -/
def State.acqNext (s : State) : State :=
  match s.acqPhase with
  | .start =>
    if s.inputs.busReady then (s.request (.write Config.sensorAddr [0x2C#8, 0x06#8])).goto .wr
    else s.endIter .busNotReady
  | .wr => s.awaitWrite
  | .settle =>
    if s.acqCnt = 1 then ((s.request (.read Config.sensorAddr 6)).loadAcqCnt 0).goto .rd else s.countAcq
  | .rd => s.readNext
  | .eval => if frameValid s.frame then s.acceptFrame else s.rejectFrame
  | .sleep => if s.acqCnt = 1 then (s.loadAcqCnt 0).goto .start else s.countAcq

/-- R231: START is the readiness check and, after it, the trigger write. -/
theorem acqStep_start {s : State} (hp : s.acqPhase = .start) : acqStep s = .next s.acqNext := by
  cases hb : s.inputs.busReady <;>
    simp [acqStep, State.acqNext, hp, exec, execBusReadyCheck, execTrigWrite, hb]

/-- R234: the wait for the frame, in its phase. -/
theorem awaitRead_eq {s : State} (hp : s.acqPhase = .rd) : awaitRead s = .next s.readNext := by
  unfold awaitRead
  split <;> simp [State.readNext, exec, execFrameRead, *]

/-- R235: with a frame that passes, the five operations of EVAL amount to `acceptFrame`. -/
theorem evalPhase_of_valid {s : State} (hp : s.acqPhase = .eval) (hf : frameValid s.frame = true) :
    evalPhase s = .next s.acceptFrame := by
  have hcrc : (crc8 [s.frame.f0, s.frame.f1] == s.frame.f2 && crc8 [s.frame.f3, s.frame.f4] == s.frame.f5) = true := hf
  simp only [evalPhase, exec, execFrameCheck, execCrc8, andThen_next, hcrc, if_true, evalAccepted, execFrameParse,
    execDecodeT, execDecodeRh, execEncode, execNotifyHum, State.commit_acqPhase, State.commit_signals, hp, and_self]
  rfl

/-- R235: a frame that fails ends the iteration. -/
theorem evalPhase_of_invalid {s : State} (hf : frameValid s.frame = false) :
    evalPhase s = .next s.rejectFrame := by
  have hcrc : (crc8 [s.frame.f0, s.frame.f1] == s.frame.f2 && crc8 [s.frame.f3, s.frame.f4] == s.frame.f5) = false := hf
  simp only [evalPhase, exec, execFrameCheck, execCrc8, andThen_next, hcrc, Bool.false_eq_true, if_false]
  rfl

/-- R230: the Acquisition Loop always answers, with the state of its phase rule. -/
theorem acqStep_eq (s : State) : acqStep s = .next s.acqNext := by
  cases hp : s.acqPhase with
  | start => exact acqStep_start hp
  | wr => simp [acqStep, State.acqNext, hp]
  | settle =>
    by_cases hc : s.acqCnt = 1 <;> simp [acqStep, State.acqNext, hp, exec, execSettleWait, hc]
  | rd => simp [acqStep, State.acqNext, hp, awaitRead_eq]
  | eval =>
    cases hf : frameValid s.frame
    · simp [acqStep, State.acqNext, hp, hf, evalPhase_of_invalid hf]
    · simp [acqStep, State.acqNext, hp, hf, evalPhase_of_valid hp hf]
  | sleep =>
    by_cases hc : s.acqCnt = 1 <;> simp [acqStep, State.acqNext, hp, exec, execPeriodWait, hc]

/-- R39: what the Acquisition Loop leaves alone, of its one function. -/
theorem acqNext_sameOutsideAcq (s : State) : SameOutsideAcq s s.acqNext := acqStep_sameOutsideAcq (acqStep_eq s)

/-! ### The host request -/

/-- A choice between two outcomes that complete completes. -/
theorem ite_complete {p : Prop} [Decidable p] {a b : Host.Outcome State Fault Refusal} (ha : ∃ t, a = .next t)
    (hb : ∃ t, b = .next t) : ∃ t, (if p then a else b) = .next t := by
  split
  · exact ha
  · exact hb

/-- R81, R260: every operation completes; those with a choice do on each side of it. -/
theorem exec_complete (i : Instr) (s : State) : ∃ t, exec i s = .next t := by
  cases i with
  | cmdWrite a c => exact ite_complete ⟨_, rfl⟩ ⟨_, rfl⟩
  | trigWrite => exact ite_complete ⟨_, rfl⟩ ⟨_, rfl⟩
  | frameRead f => exact ite_complete ⟨_, rfl⟩ ⟨_, rfl⟩
  | notifyHum v => exact ite_complete ⟨_, rfl⟩ ⟨_, rfl⟩
  | busReadyCheck => exact ite_complete ⟨_, rfl⟩ ⟨_, rfl⟩
  | settleWait => exact ite_complete (ite_complete ⟨_, rfl⟩ ⟨_, rfl⟩) ⟨_, rfl⟩
  | periodWait => exact ite_complete (ite_complete ⟨_, rfl⟩ ⟨_, rfl⟩) ⟨_, rfl⟩
  | _ => exact ⟨_, rfl⟩

/-- R81: the host port answers every word. -/
theorem hostStep_complete (s : State) : ∃ t, hostStep s = .next t := exec_complete _ s

theorem exec_diagRead (a : BitVec 5) (d : Byte) (s : State) :
    exec (.diagRead a d) s = .next (s.respond (s.diagWord a)) := rfl

/-- R174, log 23: CMD_WRITE is its byte's own row on the state that has answered 0 and latched CMD_LAST. -/
theorem exec_cmdWrite (a : BitVec 5) (c : Byte) (s : State) :
    exec (.cmdWrite a c) s = exec (decodeCmdb c) ((s.respond 0x00000000#32).latchCommand c) := by
  by_cases hc : c = 0x00#8 <;> simp [exec, execCmdWrite, decodeCmdb, hc]

/-- R83: OP 0b100 is DIAG_READ. -/
theorem decodeHreq_diagRead {w : U16} (h : hreqOp w = 0b100#3) :
    decodeHreq w = .diagRead (hreqAddr w) (hreqData w) := by
  simp [decodeHreq, h]

/-- R83: OP 0b010 is CMD_WRITE. -/
theorem decodeHreq_cmdWrite {w : U16} (h : hreqOp w = 0b010#3) :
    decodeHreq w = .cmdWrite (hreqAddr w) (hreqData w) := by
  simp [decodeHreq, h]

/-- R86: the word `0x4000 | c` is the CMD_WRITE of `c` at address 0. -/
theorem decodeHreq_commandWord (c : Byte) : decodeHreq (0x4000#16 ||| c.setWidth 16) = .cmdWrite 0#5 c := by
  have hop : hreqOp (0x4000#16 ||| c.setWidth 16) = 0b010#3 := by
    ext i hi
    interval_cases i <;> simp [hreqOp]
  have haddr : hreqAddr (0x4000#16 ||| c.setWidth 16) = 0#5 := by
    ext i hi
    interval_cases i <;> simp [hreqAddr]
  have hdata : hreqData (0x4000#16 ||| c.setWidth 16) = c := by
    ext i hi
    interval_cases i <;> simp [hreqData]
  rw [decodeHreq_cmdWrite hop, haddr, hdata]

/-! ### The cycle -/

/-- R290: a cycle with reset. -/
theorem step_of_rst {s : State} (hr : s.inputs.rst = true) : step s = .next s.resetCycle := by
  simp [step, clockCycle, hr]

/-- R39: a cycle without reset is its host request and then the rest. -/
theorem step_of_not_rst {s : State} (hr : s.inputs.rst = false) :
    step s = andThen (hostStep s.beginCycle) restOfCycle := by
  simp [step, clockCycle, hr]

theorem restOfCycle_eq (s : State) : restOfCycle s = .next s.acqNext.actStep.endCycle := by
  simp [restOfCycle, acqStep_eq]

/-- R39: the next state of a cycle without reset, from the state its host request leaves. -/
theorem step_of_hostStep {s u : State} (hr : s.inputs.rst = false) (hu : hostStep s.beginCycle = .next u) :
    step s = .next u.acqNext.actStep.endCycle := by
  rw [step_of_not_rst hr, hu, andThen_next, restOfCycle_eq]

end Sys2Proof.Machine

/-! SUPPORT. Order in the codec's arithmetic: rounding, binary32 patterns and values, and TV are monotone, so that the
range of MEAS_RH and TV (10_state.md R40) follows from the greatest raw word. -/

namespace Sys2Proof.Machine

/-! ### Rounding (R11) -/

theorem div_le_roundHalfEven (n d : Nat) : n / d ≤ roundHalfEven n d := by
  unfold roundHalfEven
  split_ifs <;> omega

theorem roundHalfEven_le (n d : Nat) : roundHalfEven n d ≤ n / d + 1 := by
  unfold roundHalfEven
  split_ifs <;> omega

/-- Between two multiples of `d` the rounding turns up at the middle; across one, the quotients already differ. -/
theorem roundHalfEven_mono {n m : Nat} (h : n ≤ m) (d : Nat) : roundHalfEven n d ≤ roundHalfEven m d := by
  have hq : n / d ≤ m / d := Nat.div_le_div_right h
  rcases Nat.lt_or_eq_of_le hq with hlt | heq
  · calc roundHalfEven n d ≤ n / d + 1 := roundHalfEven_le n d
      _ ≤ m / d := hlt
      _ ≤ roundHalfEven m d := div_le_roundHalfEven m d
  · have hr : n % d ≤ m % d := by
      have hn := Nat.div_add_mod n d
      have hm := Nat.div_add_mod m d
      rw [heq] at hn
      omega
    unfold roundHalfEven
    rw [heq]
    split_ifs <;> omega

/-- R11: how many bits below the 24 kept ones are dropped. -/
def droppedBits (q : Nat) : Nat := Nat.log2 q - 23

theorem droppedBits_mono {p q : Nat} (h : p ≤ q) : droppedBits p ≤ droppedBits q := by
  unfold droppedBits
  rw [Nat.log2_eq_log_two, Nat.log2_eq_log_two]
  exact Nat.sub_le_sub_right (Nat.log_mono_right h) 23

/-- What is left after dropping fits 24 bits. -/
theorem div_two_pow_droppedBits_lt (q : Nat) : q / 2 ^ droppedBits q < 2 ^ 24 := by
  have hq : q < 2 ^ (Nat.log2 q + 1) := Nat.lt_log2_self
  have hle : 2 ^ (Nat.log2 q + 1) ≤ 2 ^ (24 + droppedBits q) :=
    Nat.pow_le_pow_right (by decide) (by unfold droppedBits; omega)
  rw [Nat.div_lt_iff_lt_mul (by positivity), ← pow_add]
  omega

/-- When bits are dropped, 24 significant ones remain. -/
theorem two_pow_le_div_droppedBits {q : Nat} (h : 0 < droppedBits q) : 2 ^ 23 ≤ q / 2 ^ droppedBits q := by
  have hlog : 23 + droppedBits q = Nat.log2 q := by
    unfold droppedBits at h ⊢
    omega
  have hq : q ≠ 0 := by
    rintro rfl
    exact absurd h (by decide)
  rw [Nat.le_div_iff_mul_le (by positivity), ← pow_add, hlog]
  exact Nat.log2_self_le hq

/-- The pattern of `units / d` before infinity cuts it off. -/
def magnitudeOf (units d : Nat) : Nat :=
  droppedBits (units / d) * 2 ^ 23 + roundHalfEven units (d * 2 ^ droppedBits (units / d))

theorem rneMagnitude_eq (n d : Nat) : rneMagnitude n d = min (magnitudeOf (n * 2 ^ 149) d) 0x7F800000 := rfl

/-- Within one exponent the rounding is monotone; across exponents the smaller rounds to at most 2^24 units of its own
and the greater has at least 2^23 of the next. -/
theorem magnitudeOf_mono {a b : Nat} (h : a ≤ b) (d : Nat) : magnitudeOf a d ≤ magnitudeOf b d := by
  have hshift := droppedBits_mono (Nat.div_le_div_right (c := d) h)
  unfold magnitudeOf
  rcases Nat.lt_or_eq_of_le hshift with hlt | heq
  · have hlow : roundHalfEven a (d * 2 ^ droppedBits (a / d)) ≤ 2 ^ 24 := by
      refine (roundHalfEven_le _ _).trans ?_
      rw [← Nat.div_div_eq_div_mul]
      exact div_two_pow_droppedBits_lt _
    have hhigh : 2 ^ 23 ≤ roundHalfEven b (d * 2 ^ droppedBits (b / d)) := by
      refine le_trans ?_ (div_le_roundHalfEven _ _)
      rw [← Nat.div_div_eq_div_mul]
      exact two_pow_le_div_droppedBits (by omega)
    omega
  · rw [heq]
    exact Nat.add_le_add_left (roundHalfEven_mono h _) _

theorem rneMagnitude_mono {n m : Nat} (h : n ≤ m) (d : Nat) : rneMagnitude n d ≤ rneMagnitude m d := by
  rw [rneMagnitude_eq, rneMagnitude_eq]
  exact min_le_min_right _ (magnitudeOf_mono (Nat.mul_le_mul_right _ h) d)

/-! ### Patterns of non-negative values -/

theorem expField_eq (b : U32) : expField b = b.toNat / 2 ^ 23 % 2 ^ 8 := by
  rw [expField, BitVec.extractLsb'_toNat, Nat.shiftRight_eq_div_pow]

theorem fracField_eq (b : U32) : fracField b = b.toNat % 2 ^ 23 := by
  rw [fracField, BitVec.extractLsb'_toNat, Nat.shiftRight_zero]

/-- R11: as numbers, the patterns with sign bit 0 below infinity's are finite. -/
theorem isFinite_of_lt {b : U32} (h : b.toNat < 0x7F800000) : isFinite b = true := by
  have : expField b ≠ 0xFF := by
    rw [expField_eq]
    omega
  simpa [isFinite] using this

theorem msb_of_lt {b : U32} (h : b.toNat < 2 ^ 31) : b.msb = false := by
  rw [BitVec.msb_eq_decide]
  simpa using h

/-- R11: among patterns with sign bit 0 the greater number has the greater magnitude. -/
theorem magUnits_mono {a b : U32} (h : a.toNat ≤ b.toNat) (hb : b.toNat < 2 ^ 31) : magUnits a ≤ magUnits b := by
  have hexp : expField a ≤ expField b := by
    rw [expField_eq, expField_eq]
    omega
  have hfa : fracField a < 2 ^ 23 := by
    rw [fracField_eq]
    omega
  rcases Nat.lt_or_eq_of_le hexp with hlt | heq
  · have hb0 : expField b ≠ 0 := by omega
    have hbig : 2 ^ 23 * 2 ^ (expField b - 1) ≤ magUnits b := by
      rw [magUnits, if_neg hb0]
      exact Nat.mul_le_mul_right _ (by omega)
    refine le_trans ?_ hbig
    unfold magUnits
    split_ifs with ha0
    · exact hfa.le.trans (Nat.le_mul_of_pos_right _ (by positivity))
    · calc (2 ^ 23 + fracField a) * 2 ^ (expField a - 1)
          ≤ (2 ^ 23 * 2) * 2 ^ (expField a - 1) := Nat.mul_le_mul_right _ (by omega)
        _ = 2 ^ 23 * 2 ^ (expField a - 1 + 1) := by rw [pow_succ']; ring
        _ ≤ 2 ^ 23 * 2 ^ (expField b - 1) := Nat.mul_le_mul_left _ (Nat.pow_le_pow_right (by decide) (by omega))
  · have hfrac : fracField a ≤ fracField b := by
      rw [expField_eq, expField_eq] at heq
      rw [fracField_eq, fracField_eq]
      omega
    unfold magUnits
    rw [heq]
    split_ifs
    · exact hfrac
    · exact Nat.mul_le_mul_right _ (by omega)

theorem val32_of_lt {b : U32} (h : b.toNat < 2 ^ 31) : val32 b = magUnits b / 2 ^ 149 := by
  simp [val32, msb_of_lt h]

/-- R151: ENCODE of a finite pattern with sign bit 0, before the mod 2^16. -/
theorem encodeHumidity_of_lt {b : U32} (h : b.toNat < 0x7F800000) :
    encodeHumidity b = BitVec.ofNat 16 ((200 * magUnits b + 2 ^ 149) / (2 * 2 ^ 149)) := by
  rw [encodeHumidity_eq b (isFinite_of_lt h), msb_of_lt (by omega), if_neg (by decide), one_mul]
  exact BitVec.ofInt_natCast _ _

/-! ### DECODE_RH and TV over all raw words (R40, R117, R154) -/

theorem decodeHumidity_toNat (r : U16) : (decodeHumidity r).toNat = rneMagnitude (100 * r.toNat) 65535 := by
  have hcut : rneMagnitude (100 * r.toNat) 65535 ≤ 0x7F800000 := Nat.min_le_right _ _
  rw [decodeHumidity_eq, BitVec.toNat_ofNat]
  exact Nat.mod_eq_of_lt (by omega)

/-- R117: a greater raw word has no smaller pattern. -/
theorem decodeHumidity_mono {r q : U16} (h : r.toNat ≤ q.toNat) :
    (decodeHumidity r).toNat ≤ (decodeHumidity q).toNat := by
  rw [decodeHumidity_toNat, decodeHumidity_toNat]
  exact rneMagnitude_mono (Nat.mul_le_mul_left _ h) _

/-- R117: the greatest raw word is exactly 100 %RH. -/
theorem decodeHumidity_max : decodeHumidity 0xFFFF#16 = 0x42C80000#32 := by
  rw [decodeHumidity_eq]
  decide +kernel

theorem decodeHumidity_le (r : U16) : (decodeHumidity r).toNat ≤ 0x42C80000 := by
  have hr : r.toNat ≤ (0xFFFF#16).toNat := Nat.le_of_lt_succ r.isLt
  simpa [decodeHumidity_max] using decodeHumidity_mono hr

theorem magUnits_hundred : magUnits 0x42C80000#32 = 100 * 2 ^ 149 := by decide +kernel

theorem magUnits_decodeHumidity_le (r : U16) : magUnits (decodeHumidity r) ≤ 100 * 2 ^ 149 := by
  rw [← magUnits_hundred]
  exact magUnits_mono (decodeHumidity_le r) (by decide)

/-- R40, R117: what DECODE_RH delivers is a finite binary32 in [0, 100]. -/
theorem humidityInRange_decodeHumidity (r : U16) : humidityInRange (decodeHumidity r) := by
  have hle := decodeHumidity_le r
  have hmag : (magUnits (decodeHumidity r) : ℚ) ≤ 100 * 2 ^ 149 := by
    exact_mod_cast magUnits_decodeHumidity_le r
  refine ⟨isFinite_of_lt (by omega), ?_, ?_⟩ <;> rw [val32_of_lt (by omega)]
  · positivity
  · rwa [div_le_iff₀ (by positivity)]

/-- R154: on the HBC's own path the mod 2^16 never acts. -/
theorem tvOf_toNat (r : U16) :
    (tvOf r).toNat = (200 * magUnits (decodeHumidity r) + 2 ^ 149) / (2 * 2 ^ 149) := by
  have hle := decodeHumidity_le r
  have hmag := magUnits_decodeHumidity_le r
  rw [tvOf, encodeHumidity_of_lt (by omega), BitVec.toNat_ofNat]
  exact Nat.mod_eq_of_lt (by omega)

/-- R40, R154: TV is at most 100.00 %RH. -/
theorem tvOf_le (r : U16) : (tvOf r).toNat ≤ 10000 := by
  have hmag := magUnits_decodeHumidity_le r
  rw [tvOf_toNat]
  omega

end Sys2Proof.Machine

/-! PROOFS. The statements about the state and its invariants (10_state.md): a cycle is the parallel composition of its
agents, every cycle keeps R40's invariants, LAST_RESULT, STATUS and the DIAG map. -/

namespace Sys2Proof.Machine

/-! ### What each agent reads (R39) -/

/-- Two states agree on what the Acquisition Loop owns: its elements and its output events. -/
structure SameLoop (s t : State) : Prop where
  acqPhase : t.acqPhase = s.acqPhase
  acqCnt : t.acqCnt = s.acqCnt
  frame : t.frame = s.frame
  measT : t.measT = s.measT
  measRH : t.measRH = s.measRH
  tv : t.tv = s.tv
  lastResult : t.lastResult = s.lastResult
  busReq : t.outputs.busReq = s.outputs.busReq
  notify : t.outputs.notify = s.outputs.notify
  diag : t.outputs.diag = s.outputs.diag

theorem SameLoop.endIter {s t : State} (h : SameLoop s t) (c : Result) : SameLoop (s.endIter c) (t.endIter c) := by
  constructor <;> simp [h.frame, h.measT, h.measRH, h.tv, h.busReq, h.notify]

theorem SameLoop.goto {s t : State} (h : SameLoop s t) (p : Phase) : SameLoop (s.goto p) (t.goto p) := by
  constructor <;> simp [h.acqCnt, h.frame, h.measT, h.measRH, h.tv, h.lastResult, h.busReq, h.notify, h.diag]

theorem SameLoop.loadAcqCnt {s t : State} (h : SameLoop s t) (n : Nat) :
    SameLoop (s.loadAcqCnt n) (t.loadAcqCnt n) := by
  constructor <;> simp [h.acqPhase, h.frame, h.measT, h.measRH, h.tv, h.lastResult, h.busReq, h.notify, h.diag]

theorem SameLoop.countAcq {s t : State} (h : SameLoop s t) : SameLoop s.countAcq t.countAcq := by
  constructor <;>
    simp [h.acqPhase, h.acqCnt, h.frame, h.measT, h.measRH, h.tv, h.lastResult, h.busReq, h.notify, h.diag]

theorem SameLoop.request {s t : State} (h : SameLoop s t) (r : BusReq) : SameLoop (s.request r) (t.request r) := by
  constructor <;>
    simp [h.acqPhase, h.acqCnt, h.frame, h.measT, h.measRH, h.tv, h.lastResult, h.notify, h.diag]

theorem SameLoop.latchFrame {s t : State} (h : SameLoop s t) (f : Frame) :
    SameLoop (s.latchFrame f) (t.latchFrame f) := by
  constructor <;> simp [h.acqPhase, h.acqCnt, h.measT, h.measRH, h.tv, h.lastResult, h.busReq, h.notify, h.diag]

theorem SameLoop.acceptFrame {s t : State} (h : SameLoop s t) : SameLoop s.acceptFrame t.acceptFrame := by
  constructor <;> simp [h.frame, h.busReq]

theorem SameLoop.rejectFrame {s t : State} (h : SameLoop s t) : SameLoop s.rejectFrame t.rejectFrame := by
  constructor <;> simp [h.frame, h.measT, h.measRH, h.tv, h.busReq, h.notify]

theorem SameLoop.awaitWrite {s t : State} (h : SameLoop s t) (hrsp : t.inputs.busRsp = s.inputs.busRsp) :
    SameLoop s.awaitWrite t.awaitWrite := by
  unfold State.awaitWrite
  rw [hrsp]
  split
  · exact (h.loadAcqCnt _).goto _
  · exact h.endIter _
  · exact h
  · exact h

theorem SameLoop.readNext {s t : State} (h : SameLoop s t) (hrsp : t.inputs.busRsp = s.inputs.busRsp) :
    SameLoop s.readNext t.readNext := by
  unfold State.readNext
  rw [hrsp]
  split
  · exact (h.latchFrame _).goto _
  · exact h.endIter _
  · exact h
  · exact h

/-- R39, R243: the loop reads its own elements and the bus pins alone. -/
theorem SameLoop.acqNext {s t : State} (h : SameLoop s t) (hready : t.inputs.busReady = s.inputs.busReady)
    (hrsp : t.inputs.busRsp = s.inputs.busRsp) : SameLoop s.acqNext t.acqNext := by
  unfold State.acqNext
  rw [h.acqPhase, hready, h.acqCnt, h.frame]
  cases s.acqPhase with
  | start =>
    dsimp only
    split
    · exact (h.request _).goto _
    · exact h.endIter _
  | wr => exact h.awaitWrite hrsp
  | settle =>
    dsimp only
    split
    · exact ((h.request _).loadAcqCnt _).goto _
    · exact h.countAcq
  | rd => exact h.readNext hrsp
  | eval =>
    dsimp only
    split
    · exact h.acceptFrame
    · exact h.rejectFrame
  | sleep =>
    dsimp only
    split
    · exact (h.loadAcqCnt _).goto _
    · exact h.countAcq

theorem SameOutsideHost.sameLoop {s t : State} (h : SameOutsideHost s t) : SameLoop s t where
  acqPhase := h.acqPhase
  acqCnt := h.acqCnt
  frame := h.frame
  measT := h.measT
  measRH := h.measRH
  tv := h.tv
  lastResult := h.lastResult
  busReq := (congrArg Outputs.busReq h.otherOutputs :)
  notify := (congrArg Outputs.notify h.otherOutputs :)
  diag := (congrArg Outputs.diag h.otherOutputs :)

theorem SameOutsideAct.sameLoop {s t : State} (h : SameOutsideAct s t) : SameLoop s t where
  acqPhase := h.acqPhase
  acqCnt := h.acqCnt
  frame := h.frame
  measT := h.measT
  measRH := h.measRH
  tv := h.tv
  lastResult := h.lastResult
  busReq := congrArg Outputs.busReq h.outputs
  notify := congrArg Outputs.notify h.outputs
  diag := congrArg Outputs.diag h.outputs

theorem SameLoop.trans {s t u : State} (h : SameLoop s t) (k : SameLoop t u) : SameLoop s u where
  acqPhase := k.acqPhase.trans h.acqPhase
  acqCnt := k.acqCnt.trans h.acqCnt
  frame := k.frame.trans h.frame
  measT := k.measT.trans h.measT
  measRH := k.measRH.trans h.measRH
  tv := k.tv.trans h.tv
  lastResult := k.lastResult.trans h.lastResult
  busReq := k.busReq.trans h.busReq
  notify := k.notify.trans h.notify
  diag := k.diag.trans h.diag

theorem endCycle_sameLoop (s : State) : SameLoop s s.endCycle := by constructor <;> rfl

/-- The host request leaves the pins alone. -/
theorem SameOutsideHost.inputs {s t : State} (h : SameOutsideHost s t) : t.inputs = s.inputs := by
  simp only [State.inputs, State.inputAt, h.stimuli, h.cycle]

/-- Two states agree on what the Actuator Controller owns. -/
structure SamePulse (s t : State) : Prop where
  actState : t.actState = s.actState
  actCnt : t.actCnt = s.actCnt
  actCmd : t.actCmd = s.actCmd
  out : t.out = s.out

/-- R39, R201: the controller reads its own elements and SLOT alone; `consume` is its own output. -/
theorem SamePulse.actStep {s t : State} (h : SamePulse s t) (hslot : t.slot = s.slot) :
    SamePulse s.actStep t.actStep ∧ t.actStep.signals.consume = s.actStep.signals.consume := by
  unfold State.actStep
  rw [h.actState, h.actCnt, hslot]
  cases hs : s.actState <;> dsimp only <;> split
  · exact ⟨by constructor <;> simp [hslot], rfl⟩
  · exact ⟨by constructor <;> simp [h.actState, h.actCnt, h.actCmd, h.out], rfl⟩
  · exact ⟨by constructor <;> simp [h.actCmd], rfl⟩
  · exact ⟨by constructor <;> simp [h.actState, h.actCnt, h.actCmd, h.out], rfl⟩

theorem SameOutsideHost.samePulse {s t : State} (h : SameOutsideHost s t) : SamePulse s t :=
  ⟨h.actState, h.actCnt, h.actCmd, h.out⟩

theorem SameOutsideAcq.samePulse {s t : State} (h : SameOutsideAcq s t) : SamePulse s t :=
  ⟨h.actState, h.actCnt, h.actCmd, h.out⟩

theorem SamePulse.trans {s t u : State} (h : SamePulse s t) (k : SamePulse t u) : SamePulse s u :=
  ⟨k.actState.trans h.actState, k.actCnt.trans h.actCnt, k.actCmd.trans h.actCmd, k.out.trans h.out⟩

/-! ### What a cycle leaves, agent by agent (R39) -/

/-- The loop's part of a cycle is the loop's own step over the start-of-cycle state. -/
theorem step_sameLoop {b u : State} (hu : hostStep b = .next u) : SameLoop b.acqNext u.acqNext.actStep.endCycle := by
  have hhost := hostStep_sameOutsideHost hu
  have hpins := hhost.inputs
  exact ((hhost.sameLoop.acqNext (by rw [hpins]) (by rw [hpins])).trans (actStep_sameOutsideAct _).sameLoop).trans
    (endCycle_sameLoop _)

/-- The controller's part of a cycle is the controller's own step over the start-of-cycle state. -/
theorem step_samePulse {b u : State} (hu : hostStep b = .next u) :
    SamePulse b.actStep u.acqNext.actStep ∧
      u.acqNext.actStep.signals.consume = b.actStep.signals.consume := by
  have hhost := hostStep_sameOutsideHost hu
  have hloop := acqNext_sameOutsideAcq u
  exact (hhost.samePulse.trans hloop.samePulse).actStep (hloop.slot.trans hhost.slot)

/-- The host's part of a cycle: CMD_LAST, the answer and `SLOT_set`, with SLOT and the clock of the model still those of
the start of the cycle. -/
structure HostPart (b u t : State) : Prop where
  cmdLast : t.cmdLast = u.cmdLast
  hrsp : t.outputs.hrsp = u.outputs.hrsp
  actOut : t.outputs.actOut = b.outputs.actOut
  slotSet : t.signals.slotSet = u.signals.slotSet
  slot : t.slot = b.slot
  stimuli : t.stimuli = b.stimuli
  cycle : t.cycle = b.cycle

theorem step_hostPart {b u : State} (hu : hostStep b = .next u) : HostPart b u u.acqNext.actStep := by
  have hhost := hostStep_sameOutsideHost hu
  have hloop := acqNext_sameOutsideAcq u
  have hact := actStep_sameOutsideAct u.acqNext
  exact {
    cmdLast := hact.cmdLast.trans hloop.cmdLast
    hrsp := (congrArg Outputs.hrsp hact.outputs).trans hloop.hrsp
    actOut := ((congrArg Outputs.actOut hact.outputs).trans hloop.actOut).trans
      (congrArg Outputs.actOut hhost.otherOutputs :)
    slotSet := (congrArg Signals.slotSet hact.otherSignals).trans hloop.slotSet
    slot := (hact.slot.trans hloop.slot).trans hhost.slot
    stimuli := (hact.stimuli.trans hloop.stimuli).trans hhost.stimuli
    cycle := (hact.cycle.trans hloop.cycle).trans hhost.cycle }

/-! ### The invariants, by the agent that keeps them (R40, R10) -/

/-- The invariants over the loop's elements. -/
structure LoopInv (s : State) : Prop where
  acqWidth : s.acqCnt < 2 ^ Config.wAcq
  settleCount : s.acqPhase = .settle → 1 ≤ s.acqCnt ∧ s.acqCnt ≤ settleCycles
  sleepCount : s.acqPhase = .sleep → 1 ≤ s.acqCnt ∧ s.acqCnt ≤ periodCycles
  tvRange : s.tv.toNat ≤ 10000
  humidityRange : humidityInRange s.measRH

/-- The invariants over the controller's elements. -/
structure PulseInv (s : State) : Prop where
  actWidth : s.actCnt < 2 ^ Config.wAct
  drivingLow : s.actState = .driving → s.out = false ∧ 1 ≤ s.actCnt ∧ s.actCnt ≤ dur .off
  idleHigh : s.actState = .idle → s.out = true

theorem inv_iff (s : State) : s.Inv ↔ LoopInv s ∧ PulseInv s :=
  ⟨fun h => ⟨⟨h.acqWidth, h.settleCount, h.sleepCount, h.tvRange, h.humidityRange⟩,
      ⟨h.actWidth, h.drivingLow, h.idleHigh⟩⟩,
    fun ⟨l, p⟩ => ⟨l.acqWidth, p.actWidth, l.settleCount, l.sleepCount, p.drivingLow, p.idleHigh, l.tvRange,
      l.humidityRange⟩⟩

theorem LoopInv.congr {s t : State} (h : LoopInv s) (k : SameLoop s t) : LoopInv t where
  acqWidth := by rw [k.acqCnt]; exact h.acqWidth
  settleCount := by rw [k.acqPhase, k.acqCnt]; exact h.settleCount
  sleepCount := by rw [k.acqPhase, k.acqCnt]; exact h.sleepCount
  tvRange := by rw [k.tv]; exact h.tvRange
  humidityRange := by rw [k.measRH]; exact h.humidityRange

theorem PulseInv.congr {s t : State} (h : PulseInv s) (k : SamePulse s t) : PulseInv t where
  actWidth := by rw [k.actCnt]; exact h.actWidth
  drivingLow := by rw [k.actState, k.out, k.actCnt]; exact h.drivingLow
  idleHigh := by rw [k.actState, k.out]; exact h.idleHigh

/-- R237: the end of an iteration loads the whole gap. -/
theorem LoopInv.endIter {s : State} (h : LoopInv s) (c : Result) : LoopInv (s.endIter c) where
  acqWidth := lt_two_pow_wAcq (Nat.le_refl _)
  settleCount := by simp
  sleepCount := fun _ => ⟨periodCycles_pos, Nat.le_refl _⟩
  tvRange := h.tvRange
  humidityRange := h.humidityRange

/-- A phase that does not count asks nothing of the counter but its width. -/
theorem LoopInv.goto {s : State} (h : LoopInv s) {p : Phase} (hsettle : p ≠ .settle) (hsleep : p ≠ .sleep) :
    LoopInv (s.goto p) where
  acqWidth := h.acqWidth
  settleCount := fun hp => absurd hp hsettle
  sleepCount := fun hp => absurd hp hsleep
  tvRange := h.tvRange
  humidityRange := h.humidityRange

/-- R233, R236: the counter cleared on the way to a phase that does not count. -/
theorem LoopInv.clearAndGoto {s : State} (h : LoopInv s) {p : Phase} (hsettle : p ≠ .settle) (hsleep : p ≠ .sleep) :
    LoopInv ((s.loadAcqCnt 0).goto p) where
  acqWidth := lt_two_pow_wAcq (Nat.zero_le _)
  settleCount := fun hp => absurd hp hsettle
  sleepCount := fun hp => absurd hp hsleep
  tvRange := h.tvRange
  humidityRange := h.humidityRange

/-- R232: the settling delay is loaded whole. -/
theorem LoopInv.startSettle {s : State} (h : LoopInv s) : LoopInv ((s.loadAcqCnt settleCycles).goto .settle) where
  acqWidth := lt_two_pow_wAcq settleCycles_le_periodCycles
  settleCount := fun _ => ⟨settleCycles_pos, Nat.le_refl _⟩
  sleepCount := by simp
  tvRange := h.tvRange
  humidityRange := h.humidityRange

/-- A count in range and not 1 is in range one lower. -/
theorem countDown_mem {w c m : Nat} (h : 1 ≤ c ∧ c ≤ m) (h1 : c ≠ 1) : 1 ≤ countDown w c ∧ countDown w c ≤ m := by
  rw [countDown_of_pos w h.1]
  omega

/-- R233, R236: a count that is not in its last cycle. -/
theorem LoopInv.countAcq {s : State} (h : LoopInv s) (h1 : s.acqCnt ≠ 1) : LoopInv s.countAcq where
  acqWidth := countDown_lt h.acqWidth
  settleCount := fun hp => countDown_mem (h.settleCount hp) h1
  sleepCount := fun hp => countDown_mem (h.sleepCount hp) h1
  tvRange := h.tvRange
  humidityRange := h.humidityRange

theorem LoopInv.request {s : State} (h : LoopInv s) (r : BusReq) : LoopInv (s.request r) :=
  ⟨h.acqWidth, h.settleCount, h.sleepCount, h.tvRange, h.humidityRange⟩

theorem LoopInv.latchFrame {s : State} (h : LoopInv s) (f : Frame) : LoopInv (s.latchFrame f) :=
  ⟨h.acqWidth, h.settleCount, h.sleepCount, h.tvRange, h.humidityRange⟩

/-- R235: what EVAL commits is in range by the codec. -/
theorem loopInv_acceptFrame (s : State) : LoopInv s.acceptFrame where
  acqWidth := lt_two_pow_wAcq (Nat.le_refl _)
  settleCount := by simp
  sleepCount := fun _ => ⟨periodCycles_pos, Nat.le_refl _⟩
  tvRange := tvOf_le _
  humidityRange := humidityInRange_decodeHumidity _

theorem LoopInv.rejectFrame {s : State} (h : LoopInv s) : LoopInv s.rejectFrame := by
  unfold State.rejectFrame
  refine LoopInv.endIter ?_ _
  exact ⟨h.acqWidth, h.settleCount, h.sleepCount, h.tvRange, h.humidityRange⟩

theorem LoopInv.awaitWrite {s : State} (h : LoopInv s) : LoopInv s.awaitWrite := by
  unfold State.awaitWrite
  split
  · exact h.startSettle
  · exact h.endIter _
  · exact h
  · exact h

theorem LoopInv.readNext {s : State} (h : LoopInv s) : LoopInv s.readNext := by
  unfold State.readNext
  split
  · exact (h.latchFrame _).goto (by decide) (by decide)
  · exact h.endIter _
  · exact h
  · exact h

/-- R40: the Acquisition Loop keeps its invariants, phase by phase. -/
theorem LoopInv.acqNext {s : State} (h : LoopInv s) : LoopInv s.acqNext := by
  unfold State.acqNext
  split
  · split
    · exact (h.request _).goto (by decide) (by decide)
    · exact h.endIter _
  · exact h.awaitWrite
  · split
    · exact (h.request _).clearAndGoto (by decide) (by decide)
    next h1 => exact h.countAcq h1
  · exact h.readNext
  · split
    · exact loopInv_acceptFrame s
    · exact h.rejectFrame
  · split
    · exact h.clearAndGoto (by decide) (by decide)
    next h1 => exact h.countAcq h1

/-- R40: the Actuator Controller keeps its invariants, by its state. -/
theorem PulseInv.actStep {s : State} (h : PulseInv s) : PulseInv s.actStep := by
  unfold State.actStep
  split
  next hidle =>
    split
    · exact {
        actWidth := lt_two_pow_wAct (dur_le_off _)
        drivingLow := fun _ => ⟨rfl, dur_pos _, dur_le_off _⟩
        idleHigh := by simp }
    · exact ⟨h.actWidth, h.drivingLow, h.idleHigh⟩
  next hdriving =>
    obtain ⟨hlow, hcount⟩ := h.drivingLow hdriving
    split
    · exact {
        actWidth := lt_two_pow_wAct (Nat.zero_le _)
        drivingLow := by simp
        idleHigh := fun _ => rfl }
    next h1 => exact {
        actWidth := countDown_lt h.actWidth
        drivingLow := fun _ => ⟨hlow, countDown_mem hcount h1⟩
        idleHigh := h.idleHigh }

theorem beginCycle_loopInv {s : State} (h : LoopInv s) : LoopInv s.beginCycle :=
  ⟨h.acqWidth, h.settleCount, h.sleepCount, h.tvRange, h.humidityRange⟩

theorem endCycle_samePulse (s : State) : SamePulse s s.endCycle := ⟨rfl, rfl, rfl, rfl⟩

theorem beginCycle_samePulse (s : State) : SamePulse s s.beginCycle := ⟨rfl, rfl, rfl, rfl⟩

/-- R40: RESET_STATE meets the loop's invariants. -/
theorem reset_loopInv : LoopInv State.reset where
  acqWidth := lt_two_pow_wAcq (Nat.zero_le _)
  settleCount := by simp [State.reset]
  sleepCount := by simp [State.reset]
  tvRange := Nat.zero_le _
  humidityRange := by
    have hzero : magUnits 0x00000000#32 = 0 := by decide
    refine ⟨by decide, ?_, ?_⟩ <;> simp [State.reset, val32, hzero]

/-- R40: RESET_STATE meets the controller's invariants. -/
theorem reset_pulseInv : PulseInv State.reset where
  actWidth := lt_two_pow_wAct (Nat.zero_le _)
  drivingLow := by simp [State.reset]
  idleHigh := fun _ => rfl

theorem resetCycle_inv (s : State) : s.resetCycle.Inv :=
  (inv_iff _).mpr
    ⟨⟨reset_loopInv.acqWidth, reset_loopInv.settleCount, reset_loopInv.sleepCount, reset_loopInv.tvRange,
        reset_loopInv.humidityRange⟩,
      reset_pulseInv.congr ⟨rfl, rfl, rfl, rfl⟩⟩

/-- R40: a cycle without reset keeps the invariants, each half by its own agent. -/
theorem cycle_inv {s u : State} (h : s.Inv) (hu : hostStep s.beginCycle = .next u) :
    u.acqNext.actStep.endCycle.Inv := by
  obtain ⟨hloop, hpulse⟩ := (inv_iff s).mp h
  obtain ⟨hsame, -⟩ := step_samePulse hu
  exact (inv_iff _).mpr
    ⟨(beginCycle_loopInv hloop).acqNext.congr (step_sameLoop hu),
      (hpulse.congr (beginCycle_samePulse s)).actStep.congr (hsame.trans (endCycle_samePulse _))⟩

/-! ### LAST_RESULT and DIAG events (R237, R240) -/

/-- In a cycle the loop either ends its iteration, with a code other than NONE, or leaves LAST_RESULT and the DIAG
event alone. -/
theorem acqNext_lastResult (s : State) :
    (s.acqNext.lastResult = s.lastResult ∧ s.acqNext.outputs.diag = s.outputs.diag) ∨
      ∃ c, c ≠ Result.none ∧ s.acqNext.lastResult = c ∧ s.acqNext.outputs.diag = some c := by
  unfold State.acqNext
  split
  · split
    · exact .inl ⟨rfl, rfl⟩
    · exact .inr ⟨.busNotReady, by decide, rfl, rfl⟩
  · unfold State.awaitWrite
    split
    · exact .inl ⟨rfl, rfl⟩
    · exact .inr ⟨.writeFailed, by decide, rfl, rfl⟩
    · exact .inl ⟨rfl, rfl⟩
    · exact .inl ⟨rfl, rfl⟩
  · split <;> exact .inl ⟨rfl, rfl⟩
  · unfold State.readNext
    split
    · exact .inl ⟨rfl, rfl⟩
    · exact .inr ⟨.readFailed, by decide, rfl, rfl⟩
    · exact .inl ⟨rfl, rfl⟩
    · exact .inl ⟨rfl, rfl⟩
  · split
    · exact .inr ⟨.ok, by decide, rfl, rfl⟩
    · exact .inr ⟨.checksumMismatch, by decide, rfl, rfl⟩
  · split <;> exact .inl ⟨rfl, rfl⟩

/-! ### STATUS and the DIAG map (R35, R36) -/

/-- R35: the layout of STATUS, for any codes. -/
def statusLayout (cmd act drv : BitVec 1) (valid out : Bool) (phase result : BitVec 3) : U32 :=
  (cmd ++ BitVec.ofBool valid ++ BitVec.ofBool out ++ act ++ drv ++ 0#1 ++ phase ++ 0#1 ++ result).setWidth 32

theorem status_eq (s : State) : s.status = statusLayout (commandCode s.slot.cmd) (commandCode s.actCmd)
    s.actState.code s.slot.valid s.out s.acqPhase.code s.lastResult.code := rfl

section Layout

variable (cmd act drv : BitVec 1) (valid out : Bool) (phase result : BitVec 3)

/-- Every bit of the layout, from the field it lies in. -/
theorem statusLayout_getLsbD (i : Nat) :
    (statusLayout cmd act drv valid out phase result).getLsbD i =
      if i < 3 then result.getLsbD i
      else if i < 4 then false
      else if i < 7 then phase.getLsbD (i - 4)
      else if i < 8 then false
      else if i < 9 then drv.getLsbD 0
      else if i < 10 then act.getLsbD 0
      else if i < 11 then out
      else if i < 12 then valid
      else if i < 13 then cmd.getLsbD 0
      else false := by
  by_cases hi : i < 13
  · simp only [statusLayout, BitVec.getLsbD_setWidth, BitVec.getLsbD_append]
    interval_cases i <;> simp
  · have hout : ∀ k ≤ 13, ¬ i < k := by omega
    rw [statusLayout, BitVec.getLsbD_setWidth, BitVec.getLsbD_of_ge _ i (by omega)]
    simp [hout]

theorem statusLayout_result : (statusLayout cmd act drv valid out phase result).extractLsb' 0 3 = result := by
  apply BitVec.eq_of_getLsbD_eq
  intro i hi
  simp [statusLayout_getLsbD, hi]

theorem statusLayout_phase : (statusLayout cmd act drv valid out phase result).extractLsb' 4 3 = phase := by
  apply BitVec.eq_of_getLsbD_eq
  intro i hi
  simp only [BitVec.getLsbD_extractLsb', statusLayout_getLsbD]
  interval_cases i <;> simp

theorem statusLayout_reserved :
    (statusLayout cmd act drv valid out phase result).extractLsb' 13 19 = 0#19 := by
  apply BitVec.eq_of_getLsbD_eq
  intro i hi
  have hout : ∀ k ≤ 13, ¬ 13 + i < k := by omega
  rw [BitVec.getLsbD_extractLsb', statusLayout_getLsbD]
  simp [hout]

end Layout

theorem actStateCode_bit (a : ActState) : a.code.getLsbD 0 = decide (a = .driving) := by
  cases a <;> rfl

theorem commandCode_bit (c : Command) : (commandCode c).getLsbD 0 = decide (c = .on) := by
  cases c <;> rfl

theorem reset_status : State.reset.status = 0x00000400#32 := by decide

/-- R36: the DIAG map as a chain of tests on the address. -/
theorem diagWord_eq (s : State) (a : BitVec 5) : s.diagWord a =
    if a = 0x00#5 then s.status
    else if a = 0x01#5 then BitVec.zeroExtend 32 s.tv
    else if a = 0x02#5 then s.measT
    else if a = 0x03#5 then s.measRH
    else if a = 0x04#5 then BitVec.zeroExtend 32 s.cmdLast
    else 0x00000000#32 := by
  have hnum : ∀ b : BitVec 5, a = b ↔ a.toNat = b.toNat := fun _ => BitVec.toNat_inj.symm
  simp only [hnum]
  unfold State.diagWord
  split <;> simp_all [zext32]

/-- R36, R39: reading DIAG at the start of a cycle reads the state. -/
theorem beginCycle_diagWord (s : State) (a : BitVec 5) : s.beginCycle.diagWord a = s.diagWord a := rfl

/-! ### Words placed on the pins (logs 13, 14, 23) -/

theorem withFetchWord_of_port {s : State} {n w : Nat} {p : PortWord} (h : tablePort n w = some p) :
    s.withFetchWord n w = s.present p := by
  simp [State.withFetchWord, h]

theorem tablePort_hreq {w : Nat} (hw : w < 2 ^ 16) (htrig : w ≠ 0x2C06) :
    tablePort 16 w = some (.hreq (BitVec.ofNat 16 w)) := by
  rw [tablePort, if_neg (Nat.not_le.mpr hw)]
  simp [htrig]

theorem tablePort_cmdb {c : Nat} (hc : c < 2 ^ 8) : tablePort 8 c = some (.cmdb (BitVec.ofNat 8 c)) := by
  rw [tablePort, if_neg (Nat.not_le.mpr hc)]

theorem decodeTableWord_hreq {w : Nat} (hw : w < 2 ^ 16) (htrig : w ≠ 0x2C06) :
    decodeTableWord 16 w = some (decodeHreq (BitVec.ofNat 16 w)) := by
  simp [decodeTableWord, tablePort_hreq hw htrig, decode]

theorem decodeTableWord_cmdb {c : Nat} (hc : c < 2 ^ 8) :
    decodeTableWord 8 c = some (decodeCmdb (BitVec.ofNat 8 c)) := by
  simp [decodeTableWord, tablePort_cmdb hc, decode]

/-- R39, R170: a cycle without reset runs what its `hreq` pins decode to. -/
theorem step_of_decodeHreq {s : State} {i : Instr} (hr : s.inputs.rst = false) (hi : decodeHreq s.inputs.hreq = i) :
    step s = andThen (exec i s.beginCycle) restOfCycle := by
  rw [step_of_not_rst hr, hostStep, State.beginCycle_inputs, hi]

end Sys2Proof.Machine

namespace Sys2Proof.Proofs

open Sys2Proof.Machine

/-- Settles O13: the reset cycle by RESET_STATE, any other by the two halves of the invariant. -/
theorem everyStepKeepsTheInvariants : Obligations.EveryStepKeepsTheInvariants := by
  intro s h
  cases hr : s.inputs.rst with
  | true => exact ⟨_, step_of_rst hr, resetCycle_inv s⟩
  | false =>
    obtain ⟨u, hu⟩ := hostStep_complete s.beginCycle
    exact ⟨_, step_of_hostStep hr hu, cycle_inv h hu⟩

/-- Settles O9: each agent's part of the cycle, read off the three lemmas that say what it depends on. -/
theorem cycleIsTheParallelComposition : Obligations.CycleIsTheParallelComposition := by
  intro s
  refine ⟨fun hr => ⟨_, step_of_rst hr, by constructor <;> rfl, rfl⟩, fun hr => ?_⟩
  obtain ⟨u, hu⟩ := hostStep_complete s.beginCycle
  have hloop := step_sameLoop hu
  obtain ⟨hpulse, hconsume⟩ := step_samePulse hu
  have hhost := step_hostPart hu
  refine ⟨_, u, _, _, step_of_hostStep hr hu, hu, acqStep_eq _, rfl, hloop.acqPhase, hloop.acqCnt, hloop.frame,
    hloop.measT, hloop.measRH, hloop.tv, hloop.lastResult, hhost.cmdLast, hpulse.actState, hpulse.actCnt,
    hpulse.actCmd, hpulse.out, ?_, ?_, ?_, ?_⟩
  · rw [State.endCycle_slot, hhost.slot, hhost.slotSet, hconsume, State.beginCycle_slot]
  · rw [← hloop.busReq, ← hloop.notify, ← hloop.diag, ← hhost.hrsp]
    exact congrArg (Outputs.mk _ _ _ _) hhost.actOut
  · rw [State.endCycle_stimuli, hhost.stimuli, State.beginCycle_stimuli]
  · rw [State.endCycle_cycle, hhost.cycle, State.beginCycle_cycle]

/-- Settles O14: a cycle begins with no DIAG event, so one at its end is the loop's, with LAST_RESULT's new code. -/
theorem noneLastsUntilAnIterationEnds : Obligations.NoneLastsUntilAnIterationEnds := by
  intro s hr
  obtain ⟨u, hu⟩ := hostStep_complete s.beginCycle
  have hloop := step_sameLoop hu
  refine ⟨_, step_of_hostStep hr hu, ?_⟩
  rw [hloop.lastResult, hloop.diag]
  rcases acqNext_lastResult s.beginCycle with ⟨hlast, hdiag⟩ | ⟨c, hc, hlast, hdiag⟩
  · simp [hlast, hdiag]
  · simp [hlast, hdiag, hc]

/-- Settles O17: the operation answers `diagWord`, and its cycle asks it of the start-of-cycle state. -/
theorem diagReadAnswersTheMap : Obligations.DiagReadAnswersTheMap := by
  refine ⟨fun w h => decodeHreq_diagRead h, fun s a d => ⟨_, exec_diagRead a d s, diagWord_eq s a⟩, ?_,
    reset_status, rfl⟩
  intro s hr hop
  have hu : hostStep s.beginCycle = .next (s.beginCycle.respond (s.diagWord (hreqAddr s.inputs.hreq))) := by
    rw [hostStep, State.beginCycle_inputs, decodeHreq_diagRead hop, exec_diagRead, beginCycle_diagWord]
  exact ⟨_, step_of_hostStep hr hu, (step_hostPart hu).hrsp⟩

/-- Settles O18: the layout for any codes, at the codes of the state. -/
theorem statusBits : Obligations.StatusBits := by
  refine ⟨fun s => ?_, reset_status⟩
  rw [status_eq]
  exact ⟨statusLayout_result .., statusLayout_getLsbD .., statusLayout_phase .., statusLayout_getLsbD ..,
    (statusLayout_getLsbD ..).trans (actStateCode_bit _), (statusLayout_getLsbD ..).trans (commandCode_bit _),
    statusLayout_getLsbD .., statusLayout_getLsbD .., (statusLayout_getLsbD ..).trans (commandCode_bit _),
    statusLayout_reserved ..⟩

/-- Settles O7: a placed word reaches the `hreq` pins with no reset, a placed command byte as the DATA of a CMD_WRITE. -/
theorem stepRunsTheDecodedRequest : Obligations.StepRunsTheDecodedRequest := by
  refine ⟨fun s i hr hi => step_of_decodeHreq hr hi, ?_, ?_⟩
  · intro s w i hw htrig hi
    rw [decodeTableWord_hreq hw htrig, Option.some.injEq] at hi
    rw [withFetchWord_of_port (tablePort_hreq hw htrig)]
    exact step_of_decodeHreq rfl hi
  · intro s c i hc hi
    rw [decodeTableWord_cmdb hc, Option.some.injEq] at hi
    rw [withFetchWord_of_port (tablePort_cmdb hc), ← hi, ← exec_cmdWrite 0#5]
    exact step_of_decodeHreq rfl (decodeHreq_commandWord _)

/-- Settles O12: the two halves of the invariant at RESET_STATE. -/
theorem resetStateMeetsTheInvariants : Obligations.ResetStateMeetsTheInvariants :=
  (inv_iff _).mpr ⟨reset_loopInv, reset_pulseInv⟩

end Sys2Proof.Proofs

/-! PROOFS. The statement about what a request may change (20_memory.md): a cycle under any request is the cycle under a
NOP, with the request's own CMD_LAST, SLOT and answer put over it. -/

namespace Sys2Proof.Machine

/-! ### The effect of a request (R172 to R177) -/

/-- R172, R173, R175 to R177: a request other than CMD_WRITE answers, and does nothing else. -/
theorem hostStep_of_not_cmdWrite {s : State} (h : hreqOp s.inputs.hreq ≠ 0b010#3) :
    ∃ w, hostStep s = .next (s.respond w) := by
  unfold hostStep decodeHreq
  split
  case h_3 hop => exact absurd (BitVec.eq_of_toNat_eq hop) h
  all_goals exact ⟨_, rfl⟩

/-- R85: the row of a command byte asks for the byte's command, On or Off. -/
theorem exec_decodeCmdb (c : Byte) (s : State) : exec (decodeCmdb c) s = .next (s.requestCommand (decodeCmd c)) := by
  by_cases hc : c = 0x00#8
  · rw [decodeCmdb, if_pos hc, hc]
    rfl
  · rw [decodeCmdb, if_neg hc]
    rfl

/-- R174: CMD_WRITE answers 0, latches its byte and asks for the byte's command. -/
theorem hostStep_of_cmdWrite {s : State} (h : hreqOp s.inputs.hreq = 0b010#3) :
    hostStep s = .next (((s.respond 0x00000000#32).latchCommand (hreqData s.inputs.hreq)).requestCommand
      (decodeCmd (hreqData s.inputs.hreq))) := by
  rw [hostStep, decodeHreq_cmdWrite h, exec_cmdWrite, exec_decodeCmdb]

/-! ### States that agree in every part -/

theorem SameLoop.symm {s t : State} (h : SameLoop s t) : SameLoop t s :=
  ⟨h.acqPhase.symm, h.acqCnt.symm, h.frame.symm, h.measT.symm, h.measRH.symm, h.tv.symm, h.lastResult.symm,
    h.busReq.symm, h.notify.symm, h.diag.symm⟩

theorem SamePulse.symm {s t : State} (h : SamePulse s t) : SamePulse t s :=
  ⟨h.actState.symm, h.actCnt.symm, h.actCmd.symm, h.out.symm⟩

/-- R39: the loop's part, the controller's part and what is neither's make up the whole state. -/
theorem eq_of_sameLoop_of_samePulse {s t : State} (hloop : SameLoop s t) (hpulse : SamePulse s t)
    (hcmdLast : t.cmdLast = s.cmdLast) (hslot : t.slot = s.slot) (hhrsp : t.outputs.hrsp = s.outputs.hrsp)
    (hactOut : t.outputs.actOut = s.outputs.actOut) (hsignals : t.signals = s.signals)
    (hstimuli : t.stimuli = s.stimuli) (hcycle : t.cycle = s.cycle) : t = s := by
  obtain ⟨hphase, hcnt, hframe, hmeasT, hmeasRH, htv, hlast, hreq, hnotify, hdiag⟩ := hloop
  obtain ⟨hact, hactCnt, hactCmd, hout⟩ := hpulse
  have houtputs : t.outputs = s.outputs := by
    rw [Outputs.mk.injEq]
    exact ⟨hreq, hhrsp, hnotify, hdiag, hactOut⟩
  rw [State.mk.injEq]
  exact ⟨hphase, hcnt, hframe, hmeasT, hmeasRH, htv, hlast, hcmdLast, hact, hactCnt, hactCmd, hslot, hout, houtputs,
    hsignals, hstimuli, hcycle⟩

/-! ### The cycle under a NOP (R67) -/

/-- `s` with a NOP on the `hreq` pins, the other pins as they are. -/
def State.withNop (s : State) : State := s.drive { s.inputs with hreq := 0x0000#16 }

/-- The state the cycle of `s` leaves with a NOP for its request. -/
def State.afterNop (s : State) : State :=
  (s.withNop.beginCycle.respond 0x00000000#32).acqNext.actStep.endCycle

/-- R172: the host port under a NOP. -/
theorem hostStep_withNop (s : State) :
    hostStep s.withNop.beginCycle = .next (s.withNop.beginCycle.respond 0x00000000#32) := by
  have hnop : decodeHreq 0x0000#16 = .nop 0x00#5 0x00#8 := by decide
  rw [hostStep, State.beginCycle_inputs, State.withNop, drive_inputs, hnop]
  rfl

theorem step_withNop {s : State} (hr : s.inputs.rst = false) : step s.withNop = .next s.afterNop :=
  step_of_hostStep hr (hostStep_withNop s)

theorem afterNop_cmdLast (s : State) : s.afterNop.cmdLast = s.cmdLast := (step_hostPart (hostStep_withNop s)).cmdLast

theorem afterNop_hrsp (s : State) : s.afterNop.outputs.hrsp = 0x00000000#32 :=
  (step_hostPart (hostStep_withNop s)).hrsp

/-- R205: a write merged together with a consume is the write merged over what the consume alone leaves. -/
theorem slotNext_eq_write_over (slot : Slot) (slotSet : Option Command) (consume : Bool) :
    slotNext slot slotSet consume = slotNext (slotNext slot none consume) slotSet false := by
  cases slotSet <;> rfl

/-- The request pins are not the loop's: it does in a cycle what it does under a NOP. -/
theorem afterNop_sameLoop {s u : State} (hu : hostStep s.beginCycle = .next u) :
    SameLoop s.afterNop u.acqNext.actStep.endCycle := by
  have hstart : SameLoop s.withNop.beginCycle s.beginCycle := by constructor <;> rfl
  exact ((step_sameLoop (hostStep_withNop s)).symm.trans (hstart.acqNext rfl rfl)).trans (step_sameLoop hu)

/-- Nor are they the controller's, `consume` included. -/
theorem afterNop_samePulse {s u : State} (hu : hostStep s.beginCycle = .next u) :
    SamePulse s.afterNop u.acqNext.actStep.endCycle ∧
      s.afterNop.slot = slotNext s.slot none u.acqNext.actStep.signals.consume := by
  have hstart : SamePulse s.withNop.beginCycle s.beginCycle := ⟨rfl, rfl, rfl, rfl⟩
  obtain ⟨hnop, hnopConsume⟩ := step_samePulse (hostStep_withNop s)
  obtain ⟨hreq, hreqConsume⟩ := step_samePulse hu
  obtain ⟨hpulse, hconsume⟩ := hstart.actStep rfl
  have hhost := step_hostPart (hostStep_withNop s)
  refine ⟨(endCycle_samePulse _).symm.trans (((hnop.symm.trans hpulse).trans hreq).trans (endCycle_samePulse _)), ?_⟩
  rw [hreqConsume, hconsume, ← hnopConsume, State.afterNop, State.endCycle_slot, hhost.slot, hhost.slotSet]
  rfl

/-- R67: a cycle's next state is the one a NOP leaves, with the request's CMD_LAST, `SLOT_set` and answer put over it. -/
theorem cycle_eq_afterNop {s u : State} (hu : hostStep s.beginCycle = .next u) :
    u.acqNext.actStep.endCycle = { s.afterNop with
      cmdLast := u.cmdLast
      slot := slotNext s.afterNop.slot u.signals.slotSet false
      outputs := { s.afterNop.outputs with hrsp := u.outputs.hrsp } } := by
  have hhost := step_hostPart hu
  have hnop := step_hostPart (hostStep_withNop s)
  have hloop := afterNop_sameLoop hu
  obtain ⟨hpulse, hslot⟩ := afterNop_samePulse hu
  refine eq_of_sameLoop_of_samePulse ?_ ⟨hpulse.actState, hpulse.actCnt, hpulse.actCmd, hpulse.out⟩ hhost.cmdLast ?_
    hhost.hrsp ?_ rfl ?_ ?_
  · exact ⟨hloop.acqPhase, hloop.acqCnt, hloop.frame, hloop.measT, hloop.measRH, hloop.tv, hloop.lastResult,
      hloop.busReq, hloop.notify, hloop.diag⟩
  · rw [State.endCycle_slot, hhost.slot, hhost.slotSet, hslot]
    exact slotNext_eq_write_over _ _ _
  · exact hhost.actOut.trans hnop.actOut.symm
  · exact (congrArg List.tail hhost.stimuli).trans (congrArg List.tail hnop.stimuli).symm
  · exact congrArg (· + 1) (hhost.cycle.trans hnop.cycle.symm)

end Sys2Proof.Machine

namespace Sys2Proof.Proofs

open Sys2Proof.Machine

/-- Settles O21: the cycle against the one under a NOP, at the effect of a CMD_WRITE and at that of any other request. -/
theorem requestsChangeOnlyWhatTheySay : Obligations.RequestsChangeOnlyWhatTheySay := by
  intro s hr
  by_cases hop : hreqOp s.inputs.hreq = 0b010#3
  · have hu := hostStep_of_cmdWrite (s := s.beginCycle) hop
    refine ⟨_, _, step_of_hostStep hr hu, step_withNop hr, fun h => absurd hop h, fun _ => ?_⟩
    rw [cycle_eq_afterNop hu, State.requestCommand_outputs, State.latchCommand_outputs, State.respond_outputs,
      ← afterNop_hrsp s]
    rfl
  · obtain ⟨w, hu⟩ := hostStep_of_not_cmdWrite (s := s.beginCycle) hop
    refine ⟨_, _, step_of_hostStep hr hu, step_withNop hr, fun _ => ?_, fun h => absurd h hop⟩
    rw [cycle_eq_afterNop hu, State.respond_cmdLast, State.beginCycle_cmdLast, ← afterNop_cmdLast s,
      ← afterNop_hrsp s]
    rfl

end Sys2Proof.Proofs

/-! PROOFS. The statements about the encodings (30_encoding.md): the HREQ opcode map as one function of OP, decoding and
encoding as each other's inverse, and which operations a placed word, a command byte and a phase run. -/

namespace Sys2Proof

/-! ### The fields of a pattern (R82, R88) -/

/-- A slice above the last byte of a concatenation is a slice of what stands before that byte. -/
theorem extractLsb'_append_byte {n i : Nat} (x : BitVec n) (b : Byte) (len : Nat) (hi : 8 ≤ i) :
    (x ++ b).extractLsb' i len = x.extractLsb' (i - 8) len := BitVec.extractLsb'_append_eq_of_le hi

/-- The lowest slice of a concatenation with a byte is the byte. -/
theorem lowByte_append_byte {n : Nat} (x : BitVec n) (b : Byte) : (x ++ b).extractLsb' 0 8 = b :=
  BitVec.extractLsb'_append_eq_right

@[simp] theorem hreqOp_hreqWord (op : BitVec 3) (a : BitVec 5) (d : Byte) : hreqOp (hreqWord op a d) = op :=
  (extractLsb'_append_byte (op ++ a) d 3 (by decide)).trans BitVec.extractLsb'_append_eq_left

@[simp] theorem hreqAddr_hreqWord (op : BitVec 3) (a : BitVec 5) (d : Byte) : hreqAddr (hreqWord op a d) = a :=
  (extractLsb'_append_byte (op ++ a) d 5 (by decide)).trans BitVec.extractLsb'_append_eq_right

@[simp] theorem hreqData_hreqWord (op : BitVec 3) (a : BitVec 5) (d : Byte) : hreqData (hreqWord op a d) = d :=
  lowByte_append_byte (op ++ a) d

/-- R90: a value is its high byte before its low byte. -/
theorem highByte_append_lowByte (v : U16) : v.extractLsb' 8 8 ++ v.extractLsb' 0 8 = v :=
  BitVec.extractLsb'_append_extractLsb'

/-- R82: OP, ADDR and DATA cover the word. -/
@[simp] theorem hreqWord_fields (w : U16) : hreqWord (hreqOp w) (hreqAddr w) (hreqData w) = w := by
  have hhigh : hreqOp w ++ hreqAddr w = w.extractLsb' 8 8 := BitVec.extractLsb'_append_extractLsb'_eq_extractLsb' rfl
  rw [hreqWord, hhigh]
  exact highByte_append_lowByte w

/-- R88: a frame is read back from its 48 bits. -/
@[simp] theorem Frame.ofBits_toBits (f : Frame) : Frame.ofBits f.toBits = f := by
  simp [Frame.ofBits, Frame.toBits, extractLsb'_append_byte, lowByte_append_byte]

/-- R88: the six bytes cover the 48 bits, each joined to those before it. -/
@[simp] theorem Frame.toBits_ofBits (w : BitVec 48) : (Frame.ofBits w).toBits = w := by
  have h1 : w.extractLsb' 40 8 ++ w.extractLsb' 32 8 = w.extractLsb' 32 16 :=
    BitVec.extractLsb'_append_extractLsb'_eq_extractLsb' rfl
  have h2 : w.extractLsb' 32 16 ++ w.extractLsb' 24 8 = w.extractLsb' 24 24 :=
    BitVec.extractLsb'_append_extractLsb'_eq_extractLsb' rfl
  have h3 : w.extractLsb' 24 24 ++ w.extractLsb' 16 8 = w.extractLsb' 16 32 :=
    BitVec.extractLsb'_append_extractLsb'_eq_extractLsb' rfl
  have h4 : w.extractLsb' 16 32 ++ w.extractLsb' 8 8 = w.extractLsb' 8 40 :=
    BitVec.extractLsb'_append_extractLsb'_eq_extractLsb' rfl
  rw [Frame.toBits, Frame.ofBits, h1, h2, h3, h4]
  exact BitVec.extractLsb'_append_extractLsb'

/-! ### The HREQ opcode map (R83) -/

/-- R83: the host operation of an opcode, with its two fields. -/
def hreqInstr (op : BitVec 3) (a : BitVec 5) (d : Byte) : Instr :=
  match op.toNat with
  | 0 => .nop a d
  | 1 => .humRead a d
  | 2 => .cmdWrite a d
  | 3 => .cmdWriteEmpty a d
  | 4 => .diagRead a d
  | 5 => .rsv5 a d
  | 6 => .rsv6 a d
  | _ => .rsv7 a d

/-- R83: a word decodes to the operation of its OP, with its ADDR and DATA. -/
theorem decodeHreq_eq_hreqInstr (w : U16) : decodeHreq w = hreqInstr (hreqOp w) (hreqAddr w) (hreqData w) := rfl

/-- R83: what holds of each of the eight opcodes holds of every OP. -/
theorem opcode_cases {P : BitVec 3 → Prop} (h0 : P 0b000#3) (h1 : P 0b001#3) (h2 : P 0b010#3) (h3 : P 0b011#3)
    (h4 : P 0b100#3) (h5 : P 0b101#3) (h6 : P 0b110#3) (h7 : P 0b111#3) (op : BitVec 3) : P op := by
  obtain ⟨n, hn⟩ := op
  interval_cases n <;> assumption

/-- R83: the encoder puts the opcode and the fields back. -/
theorem encode_hreqInstr (op : BitVec 3) (a : BitVec 5) (d : Byte) :
    encode (hreqInstr op a d) = some (.hreq (hreqWord op a d)) := by
  cases op using opcode_cases <;> rfl

/-- R83: the opcode map's rows are told apart by OP alone. -/
theorem tableRow_hreqInstr (op : BitVec 3) (a : BitVec 5) (d : Byte) :
    (hreqInstr op a d).tableRow = some ⟨16, op.toNat * 0x2000, 0xE000⟩ := by
  cases op using opcode_cases <;> rfl

/-- R81: every host operation is well formed. -/
theorem wellFormed_hreqInstr (op : BitVec 3) (a : BitVec 5) (d : Byte) : (hreqInstr op a d).wellFormed = true := by
  cases op using opcode_cases <;> rfl

/-- R83: the word made of an opcode and two fields decodes to the operation of that opcode. -/
theorem decodeHreq_hreqWord (op : BitVec 3) (a : BitVec 5) (d : Byte) :
    decodeHreq (hreqWord op a d) = hreqInstr op a d := by
  rw [decodeHreq_eq_hreqInstr, hreqOp_hreqWord, hreqAddr_hreqWord, hreqData_hreqWord]

theorem encode_decodeHreq (w : U16) : encode (decodeHreq w) = some (.hreq w) := by
  rw [decodeHreq_eq_hreqInstr, encode_hreqInstr, hreqWord_fields]

theorem tableRow_decodeHreq (w : U16) :
    (decodeHreq w).tableRow = some ⟨16, (hreqOp w).toNat * 0x2000, 0xE000⟩ := tableRow_hreqInstr ..

/-- The mask of the HREQ rows keeps a word's OP. -/
theorem hreq_mask (w : U16) : w.toNat &&& 0xE000 = (hreqOp w).toNat * 0x2000 := by
  rw [← Laws.TableRow.hreqWord_mask _ (hreqAddr w) (hreqData w), hreqWord_fields]

/-- Decode after encode, for the host operation of any opcode. -/
theorem decode_of_encode_hreqInstr (op : BitVec 3) (a : BitVec 5) (d : Byte) {p : PortWord}
    (hp : encode (hreqInstr op a d) = some p) : decode p = .instr (hreqInstr op a d) := by
  rw [encode_hreqInstr, Option.some.injEq] at hp
  rw [← hp, decode, decodeHreq_hreqWord]

/-! ### The command byte and the words of the other ports (R85, R87, R88) -/

theorem decode_cmdb (c : Byte) : decode (.cmdb c) = .instr (if c = 0x00#8 then .cmdOff else .cmdOn c) := rfl

theorem wellFormed_cmdOn {c : Byte} : (Instr.cmdOn c).wellFormed = true ↔ c ≠ 0x00#8 := bne_iff_ne

/-- R85: what a command byte decodes to is well formed and encodes to the byte. -/
theorem wellFormed_encode_decodeCmdb (c : Byte) :
    (decodeCmdb c).wellFormed = true ∧ encode (decodeCmdb c) = some (.cmdb c) := by
  by_cases hc : c = 0x00#8
  · rw [decodeCmdb, if_pos hc, hc]
    exact ⟨rfl, rfl⟩
  · rw [decodeCmdb, if_neg hc]
    exact ⟨wellFormed_cmdOn.mpr hc, rfl⟩

/-- R87: the trigger is the one bus write that decodes. -/
theorem decode_busw_eq_instr {w : U16} {i : Instr} :
    decode (.busw w) = .instr i ↔ w = 0x2C06#16 ∧ .trigWrite = i := by
  by_cases hw : w = 0x2C06#16 <;> simp [decode, hw]

theorem tablePort_busr {w : Nat} (hw : w < 2 ^ 48) : tablePort 48 w = some (.busr (BitVec.ofNat 48 w)) := by
  rw [tablePort, if_neg (Nat.not_le.mpr hw)]

theorem decodeTableWord_busr {w : Nat} (hw : w < 2 ^ 48) :
    decodeTableWord 48 w = some (.frameRead (Frame.ofBits (BitVec.ofNat 48 w))) := by
  simp [decodeTableWord, tablePort_busr hw, decode]

theorem tablePort_trigger : tablePort 16 0x2C06 = some (.busw 0x2C06#16) := by decide

theorem decodeTableWord_trigger : decodeTableWord 16 0x2C06 = some .trigWrite := by decide

end Sys2Proof

namespace Sys2Proof.Machine

/-! ### No cycle stops (R260) -/

theorem step_complete (s : State) : ∃ t, step s = .next t := by
  cases hr : s.inputs.rst with
  | true => exact ⟨_, step_of_rst hr⟩
  | false =>
    obtain ⟨u, hu⟩ := hostStep_complete s.beginCycle
    exact ⟨_, step_of_hostStep hr hu⟩

/-- Runs of every length exist from every state. -/
theorem exists_runs (n : Nat) : ∀ s : State, ∃ t, Runs s n t := by
  induction n with
  | zero => exact fun s => ⟨s, .done s⟩
  | succ n ih =>
    intro s
    obtain ⟨t, ht⟩ := step_complete s
    obtain ⟨u, hu⟩ := ih t
    exact ⟨u, .cycle ht hu⟩

/-! ### Bus requests (R87, R110) -/

/-- What the loop does to the request output: the WRITE on the way from START to WR, the READ on the way from SETTLE to
RD, and nothing in every other case. -/
theorem acqNext_busReq_cases (s : State) :
    (s.acqPhase = .start ∧ s.inputs.busReady = true ∧ s.acqNext.acqPhase = .wr ∧
      s.acqNext.outputs.busReq = some (.write Config.sensorAddr [0x2C#8, 0x06#8])) ∨
    (s.acqPhase = .settle ∧ s.acqCnt = 1 ∧ s.acqNext.acqPhase = .rd ∧
      s.acqNext.outputs.busReq = some (.read Config.sensorAddr 6)) ∨
    (¬(s.acqPhase = .start ∧ s.inputs.busReady = true) ∧ ¬(s.acqPhase = .settle ∧ s.acqCnt = 1) ∧
      s.acqNext.outputs.busReq = s.outputs.busReq) := by
  unfold State.acqNext
  split
  next hp =>
    split
    next hb => exact .inl ⟨hp, hb, rfl, rfl⟩
    next hb => exact .inr (.inr ⟨fun h => hb h.2, by simp [hp], rfl⟩)
  next hp =>
    refine .inr (.inr ⟨by simp [hp], by simp [hp], ?_⟩)
    unfold State.awaitWrite
    split <;> rfl
  next hp =>
    split
    next hc => exact .inr (.inl ⟨hp, hc, rfl, rfl⟩)
    next hc => exact .inr (.inr ⟨by simp [hp], fun h => hc h.2, rfl⟩)
  next hp =>
    refine .inr (.inr ⟨by simp [hp], by simp [hp], ?_⟩)
    unfold State.readNext
    split <;> rfl
  next hp => split <;> exact .inr (.inr ⟨by simp [hp], by simp [hp], rfl⟩)
  next hp => split <;> exact .inr (.inr ⟨by simp [hp], by simp [hp], rfl⟩)

/-! ### The operations of a phase (R93, R230) -/

theorem acqStep_of_start {s : State} (hp : s.acqPhase = .start) :
    acqStep s = andThen (exec .busReadyCheck s) (exec .trigWrite) := by
  rw [acqStep, hp]

theorem acqStep_of_frame {s : State} {f : Frame} (hp : s.acqPhase = .rd) (hrsp : s.inputs.busRsp = .rdDone true f) :
    acqStep s = exec (.frameRead f) s := by
  rw [acqStep, hp]
  dsimp only
  rw [awaitRead, hrsp]

/-- R231: the readiness check passes on a ready bus. -/
theorem exec_busReadyCheck_of_ready {s : State} (hb : s.inputs.busReady = true) : exec .busReadyCheck s = .next s := by
  simp [exec, execBusReadyCheck, hb]

/-- R231: a START cycle with the bus ready runs the trigger write after its host request. -/
theorem step_of_start_ready {s u : State} (hr : s.inputs.rst = false) (hp : s.acqPhase = .start)
    (hb : s.inputs.busReady = true) (hu : hostStep s.beginCycle = .next u) :
    exec .busReadyCheck u = .next u ∧
      step s = andThen (exec .trigWrite u) fun a => .next a.actStep.endCycle := by
  have hhost := hostStep_sameOutsideHost hu
  have hcheck : exec .busReadyCheck u = .next u := exec_busReadyCheck_of_ready (by rw [hhost.inputs]; exact hb)
  refine ⟨hcheck, ?_⟩
  rw [step_of_not_rst hr, hu, andThen_next, restOfCycle, acqStep_of_start (hhost.acqPhase.trans hp), hcheck,
    andThen_next]

/-- R234: an RD cycle with a frame on the pins reads that frame after its host request. -/
theorem step_of_frame {s u : State} {f : Frame} (hr : s.inputs.rst = false) (hp : s.acqPhase = .rd)
    (hrsp : s.inputs.busRsp = .rdDone true f) (hu : hostStep s.beginCycle = .next u) :
    step s = andThen (exec (.frameRead f) u) fun a => .next a.actStep.endCycle := by
  have hhost := hostStep_sameOutsideHost hu
  have hursp : u.inputs.busRsp = .rdDone true f := by rw [hhost.inputs]; exact hrsp
  rw [step_of_not_rst hr, hu, andThen_next, restOfCycle, acqStep_of_frame (hhost.acqPhase.trans hp) hursp]

end Sys2Proof.Machine

namespace Sys2Proof.Proofs

open Sys2Proof.Machine

/-- Settles O3, by the operation: the eight of the HREQ map by their opcode, `cmdOn` by its byte not being 0x00. -/
theorem decodeOfEncodeIsTheOperation : Obligations.DecodeOfEncodeIsTheOperation := by
  intro i p hwf hp
  cases i with
  | nop a d => exact decode_of_encode_hreqInstr 0b000#3 a d hp
  | humRead a d => exact decode_of_encode_hreqInstr 0b001#3 a d hp
  | cmdWrite a d => exact decode_of_encode_hreqInstr 0b010#3 a d hp
  | cmdWriteEmpty a d => exact decode_of_encode_hreqInstr 0b011#3 a d hp
  | diagRead a d => exact decode_of_encode_hreqInstr 0b100#3 a d hp
  | rsv5 a d => exact decode_of_encode_hreqInstr 0b101#3 a d hp
  | rsv6 a d => exact decode_of_encode_hreqInstr 0b110#3 a d hp
  | rsv7 a d => exact decode_of_encode_hreqInstr 0b111#3 a d hp
  | cmdOff =>
    cases hp
    rfl
  | cmdOn c =>
    cases hp
    rw [decode_cmdb, if_neg (wellFormed_cmdOn.mp hwf)]
  | trigWrite =>
    cases hp
    rfl
  | frameRead f =>
    cases hp
    rw [decode, Frame.ofBits_toBits]
  | notifyHum v =>
    cases hp
    rfl
  | busReadyCheck | crc8 | frameCheck | frameParse | decodeT | decodeRh | encode | settleWait | periodWait => cases hp

/-- Settles O2: the row of a word is that of its OP, and the mask keeps OP. -/
theorem hreqRowsSplitTheWordSpace : Obligations.HreqRowsSplitTheWordSpace := by
  intro w
  refine ⟨_, tableRow_decodeHreq w, hreq_mask w, fun v r' hr' hmatch => ?_⟩
  rw [tableRow_decodeHreq, Option.some.injEq] at hr'
  subst hr'
  rw [hreq_mask] at hmatch
  rw [hmatch]

/-- Settles O4, by the port. -/
theorem encodeOfDecodeIsTheWord : Obligations.EncodeOfDecodeIsTheWord := by
  intro p i h
  cases p with
  | hreq w =>
    cases h
    exact ⟨wellFormed_hreqInstr .., encode_decodeHreq w⟩
  | cmdb c =>
    cases h
    exact wellFormed_encode_decodeCmdb c
  | busw w =>
    obtain ⟨rfl, rfl⟩ := decode_busw_eq_instr.mp h
    exact ⟨rfl, rfl⟩
  | busr w =>
    cases h
    exact ⟨rfl, by rw [encode, Frame.toBits_ofBits]⟩
  | notif v =>
    cases h
    exact ⟨rfl, rfl⟩

/-- Settles O10: an operation by its arms, a cycle as reset or its three agents, runs by induction on their length. -/
theorem nothingStopsTheMachine : Obligations.NothingStopsTheMachine :=
  ⟨exec_complete, step_complete, fun s n => exists_runs n s⟩

/-- Settles O33: a cycle begins with no request, so one at its end is the loop's. -/
theorem busRequestsAreTheTwoOfTheSpec : Obligations.BusRequestsAreTheTwoOfTheSpec := by
  intro s hr
  obtain ⟨u, hu⟩ := hostStep_complete s.beginCycle
  have hloop := step_sameLoop hu
  have hcases := acqNext_busReq_cases s.beginCycle
  simp only [State.beginCycle_acqPhase, State.beginCycle_acqCnt, State.beginCycle_inputs,
    State.beginCycle_outputs] at hcases
  refine ⟨_, step_of_hostStep hr hu, ?_⟩
  rw [hloop.busReq, State.outstanding, State.outstanding, hloop.acqPhase]
  rcases hcases with ⟨hp, hb, hnext, hreq⟩ | ⟨hp, hc, hnext, hreq⟩ | ⟨hwrite, hread, hreq⟩
  · refine ⟨fun a bs => ?_, ?_, ?_⟩
    · simp [hreq, hp, hb, eq_comm (a := a), eq_comm (a := bs)]
    · simp [hreq, hp]
    · simp [hp, hnext]
  · refine ⟨?_, fun a n => ?_, ?_⟩
    · simp [hreq, hp]
    · simp [hreq, hp, hc, eq_comm (a := a), eq_comm (a := n)]
    · simp [hp, hnext]
  · simp [hreq, hwrite, hread]

/-- Settles O1: each HREQ word is the concatenation of its fields; the other words decode by their port. -/
theorem wordsReadAsTheTablesSay : Obligations.WordsReadAsTheTablesSay :=
  ⟨decodeHreq_hreqWord 0b000#3 0#5 0xFF#8, decodeHreq_hreqWord 0b001#3 0x1F#5 0xFF#8,
    decodeHreq_hreqWord 0b010#3 0x1F#5 0x07#8, decodeHreq_hreqWord 0b011#3 0#5 0#8,
    decodeHreq_hreqWord 0b100#3 0x03#5 0#8, decodeHreq_hreqWord 0b101#3 0#5 0#8, decodeHreq_hreqWord 0b110#3 0#5 0#8,
    decodeHreq_hreqWord 0b111#3 0x01#5 0x23#8, rfl, rfl, rfl, rfl, rfl⟩

/-- Settles O5: the two branches of the decoder and of `decodeCmd`, and R8's durations. -/
theorem commandByteDecodes : Obligations.CommandByteDecodes :=
  ⟨decode_cmdb, if_pos rfl, fun _ hc => if_neg hc, rfl, rfl⟩

/-- Settles O6: a payload's word is R86's, and the two bytes on the air make up the value. -/
theorem hostSideMappings : Obligations.HostSideMappings :=
  ⟨decodeHreq_hreqWord 0b011#3 0#5 0#8, fun c _ => decodeHreq_commandWord c,
    fun v => ⟨_, _, rfl, (highByte_append_lowByte v).symm⟩, by decide⟩

/-- Settles O8: the sequencer's own definition, at each phase. -/
theorem sequencerRunsThePhaseOperations : Obligations.SequencerRunsThePhaseOperations := by
  intro s
  refine ⟨acqStep_of_start, fun hp => ?_, fun f => acqStep_of_frame, fun hp => ?_, fun hp => ?_⟩
  · rw [acqStep, hp]
  · rw [acqStep, hp]
  · rw [acqStep, hp]
    rfl

/-- Settles O20: the byte's row asks for the byte's command, and CMD_WRITE runs that row. -/
theorem commandByteAsksForItsSequence : Obligations.CommandByteAsksForItsSequence := by
  intro s
  refine ⟨rfl, fun c hc => ?_, fun a c => exec_cmdWrite a c s⟩
  have hrow := exec_decodeCmdb c s
  rw [decodeCmdb, if_neg hc, decodeCmd, if_neg hc] at hrow
  exact hrow

/-- Settles O57: a placed pattern sets the phase and the pins of the cycle, which then runs its operation. -/
theorem placedBusPatternsRunInTheSequencer : Obligations.PlacedBusPatternsRunInTheSequencer := by
  refine ⟨decodeTableWord_trigger, fun s => ?_, fun s w i hw hi => ?_⟩
  · rw [withFetchWord_of_port tablePort_trigger]
    obtain ⟨u, hu⟩ := hostStep_complete (s.present (.busw 0x2C06#16)).beginCycle
    exact ⟨u, hu, step_of_start_ready rfl rfl rfl hu⟩
  · rw [decodeTableWord_busr hw, Option.some.injEq] at hi
    rw [withFetchWord_of_port (tablePort_busr hw), ← hi]
    obtain ⟨u, hu⟩ := hostStep_complete (s.present (.busr (BitVec.ofNat 48 w))).beginCycle
    exact ⟨u, hu, step_of_frame rfl rfl rfl hu⟩

end Sys2Proof.Proofs

/-! PROOFS. The statements about the Bus Protocol Codec but its two decoders (40_bus_codec.md R111 to R115): which
responses a cycle ignores, CRC8 as an affine function of its bytes, and what FRAME_CHECK detects. -/

namespace Sys2Proof.Machine

/-! ### CRC8 (R112) -/

/-- R112: a shift is the plain shift and, where the top bit was set, the polynomial. -/
theorem crcShift_eq (c : Byte) : crcShift c = (c <<< 1) ^^^ (if c.msb then crcPoly else 0) := by
  unfold crcShift
  split <;> simp

theorem crcShifts_eq_iterate (n : Nat) : ∀ c : Byte, crcShifts n c = crcShift^[n] c := by
  induction n with
  | zero => exact fun c => rfl
  | succ n ih => exact fun c => ih (crcShift c)

theorem crc8_append_singleton (bs : List Byte) (b : Byte) : crc8 (bs ++ [b]) = crcByte (crc8 bs) b :=
  List.foldl_append

/-- Shifting is linear over XOR. -/
theorem crcShift_xor (c e : Byte) : crcShift (c ^^^ e) = crcShift c ^^^ crcShift e := by
  simp only [crcShift_eq, BitVec.msb_xor, BitVec.shiftLeft_xor_distrib]
  have hpoly : (if c.msb ^^ e.msb then crcPoly else 0) =
      (if c.msb then crcPoly else 0) ^^^ (if e.msb then crcPoly else 0) := by
    cases c.msb <;> cases e.msb <;> decide
  rw [hpoly]
  ac_rfl

theorem crcShifts_xor (n : Nat) : ∀ c e : Byte, crcShifts n (c ^^^ e) = crcShifts n c ^^^ crcShifts n e := by
  induction n with
  | zero => exact fun c e => rfl
  | succ n ih => exact fun c e => by simp only [crcShifts, crcShift_xor, ih]

theorem crcByte_xor (c e b g : Byte) : crcByte (c ^^^ e) (b ^^^ g) = crcByte c b ^^^ crcByte e g := by
  unfold crcByte
  rw [← crcShifts_xor]
  congr 1
  ac_rfl

/-- R113: what the error bytes `e0`, `e1` change in the CRC of a word: their own CRC from the start value 0. -/
def errorCrc (e0 e1 : Byte) : Byte := crcByte (crcByte 0x00#8 e0) e1

/-- R112: the CRC of a word with errors is the CRC without them, XOR what the errors change. -/
theorem crc8_pair_xor (d0 d1 e0 e1 : Byte) : crc8 [d0 ^^^ e0, d1 ^^^ e1] = crc8 [d0, d1] ^^^ errorCrc e0 e1 := by
  have hinit : crcInit = crcInit ^^^ 0x00#8 := rfl
  change crcByte (crcByte crcInit (d0 ^^^ e0)) (d1 ^^^ e1) = crcByte (crcByte crcInit d0) d1 ^^^ _
  rw [errorCrc, ← crcByte_xor, ← crcByte_xor, ← hinit]

/-- R113: a valid codeword with errors passes the check only where the errors are a codeword of their own. -/
theorem codeword_xor_valid_iff {d0 d1 d2 : Byte} (h : crc8 [d0, d1] = d2) (e0 e1 e2 : Byte) :
    crc8 [d0 ^^^ e0, d1 ^^^ e1] = d2 ^^^ e2 ↔ errorCrc e0 e1 = e2 := by
  rw [crc8_pair_xor, h, BitVec.xor_right_inj]

/-- R114: the verdict is a conjunction of the two words' checks. -/
theorem frameValid_eq_decide (f : Frame) :
    frameValid f = decide (crc8 [f.f0, f.f1] = f.f2 ∧ crc8 [f.f3, f.f4] = f.f5) := by
  rw [Bool.decide_and]
  rfl

theorem frameValid_iff (f : Frame) :
    frameValid f = true ↔ crc8 [f.f0, f.f1] = f.f2 ∧ crc8 [f.f3, f.f4] = f.f5 := by
  rw [frameValid_eq_decide, decide_eq_true_iff]

/-- A frame with errors: each byte XOR its error byte. -/
def withErrors (f e : Frame) : Frame :=
  ⟨f.f0 ^^^ e.f0, f.f1 ^^^ e.f1, f.f2 ^^^ e.f2, f.f3 ^^^ e.f3, f.f4 ^^^ e.f4, f.f5 ^^^ e.f5⟩

theorem ofBits_xor (v w : BitVec 48) :
    Frame.ofBits (v ^^^ w) = withErrors (Frame.ofBits v) (Frame.ofBits w) := by
  simp only [Frame.ofBits, withErrors, BitVec.extractLsb'_xor]

/-- R113: the errors in each word of the frame are a codeword of their own. -/
def errorsPass (e : Frame) : Bool := errorCrc e.f0 e.f1 == e.f2 && errorCrc e.f3 e.f4 == e.f5

/-- R113, R114: a valid frame with errors passes exactly where the errors in both its words do. -/
theorem frameValid_withErrors {f : Frame} (h : frameValid f = true) (e : Frame) :
    frameValid (withErrors f e) = errorsPass e := by
  obtain ⟨htemp, hhum⟩ := (frameValid_iff f).mp h
  rw [Bool.eq_iff_iff, frameValid_iff, errorsPass, Bool.and_eq_true, beq_iff_eq, beq_iff_eq]
  exact and_congr (codeword_xor_valid_iff htemp _ _ _) (codeword_xor_valid_iff hhum _ _ _)

/-- R113: no single bit is a codeword. -/
theorem bit_not_codeword : ∀ k < 24,
    errorCrc ((1#24 <<< k).extractLsb' 16 8) ((1#24 <<< k).extractLsb' 8 8) ≠ (1#24 <<< k).extractLsb' 0 8 := by
  decide +kernel

theorem bit_not_errorsPass : ∀ k < 48, errorsPass (Frame.ofBits (1#48 <<< k)) = false := by
  decide +kernel

/-! ### Responses a phase does not wait for (R111) -/

/-- R39, R170: the host request reads no pin but `hreq`, so it commutes with driving the others. -/
theorem exec_decodeHreq_drive {w : U16} {s u : State} (i : Inputs) (hu : exec (decodeHreq w) s = .next u) :
    exec (decodeHreq w) (s.drive i) = .next (u.drive i) := by
  unfold decodeHreq at hu ⊢
  split at hu
  case h_3 =>
    rw [exec_cmdWrite, exec_decodeCmdb] at hu ⊢
    cases hu
    rfl
  all_goals
    cases hu
    rfl

theorem hostStep_drive {s u : State} {i : Inputs} (hi : i.hreq = s.inputs.hreq) (hu : hostStep s = .next u) :
    hostStep (s.drive i) = .next (u.drive i) := by
  rw [hostStep, drive_inputs, hi]
  exact exec_decodeHreq_drive i hu

/-- R201: the Actuator Controller reads no pin. -/
theorem actStep_drive (s : State) (i : Inputs) : (s.drive i).actStep = s.actStep.drive i := by
  unfold State.actStep
  rw [State.drive_actState, State.drive_slot, State.drive_actCnt]
  split <;> split <;> rfl

theorem awaitWrite_of_not_accepts {s : State} (hp : s.acqPhase = .wr) (h : s.accepts s.inputs.busRsp = false) :
    s.awaitWrite = s := by
  unfold State.awaitWrite
  cases hrsp : s.inputs.busRsp with
  | none | rdDone => rfl
  | wrDone ok => simp [State.accepts, hrsp, hp] at h

theorem readNext_of_not_accepts {s : State} (hp : s.acqPhase = .rd) (h : s.accepts s.inputs.busRsp = false) :
    s.readNext = s := by
  unfold State.readNext
  cases hrsp : s.inputs.busRsp with
  | none | wrDone => rfl
  | rdDone ok f => simp [State.accepts, hrsp, hp] at h

/-- R111: in WR and RD the loop ignores a response it does not accept, and in any other phase it reads none. -/
theorem acqNext_drive {s : State} {i : Inputs} (hready : i.busReady = s.inputs.busReady) (hrsp : i.busRsp = .none)
    (h : s.accepts s.inputs.busRsp = false) : (s.drive i).acqNext = s.acqNext.drive i := by
  have hi : (s.drive i).accepts (s.drive i).inputs.busRsp = false := by rw [drive_inputs, hrsp]; rfl
  unfold State.acqNext
  rw [State.drive_acqPhase, drive_inputs, hready, State.drive_acqCnt, State.drive_frame]
  cases hp : s.acqPhase with
  | start | settle | eval | sleep =>
    dsimp only
    split_ifs <;> rfl
  | wr =>
    dsimp only
    rw [awaitWrite_of_not_accepts hp h, awaitWrite_of_not_accepts (s := s.drive i) hp hi]
  | rd =>
    dsimp only
    rw [readNext_of_not_accepts hp h, readNext_of_not_accepts (s := s.drive i) hp hi]

/-- R111: in a cycle that accepts no response, the response on the pins may as well be NONE. -/
theorem step_drive_of_not_accepts {s : State} {i : Inputs} (hrst : i.rst = s.inputs.rst)
    (hready : i.busReady = s.inputs.busReady) (hreq : i.hreq = s.inputs.hreq) (hrsp : i.busRsp = .none)
    (h : s.accepts s.inputs.busRsp = false) : step (s.drive i) = step s := by
  cases hr : s.inputs.rst with
  | true =>
    rw [step_of_rst hr, step_of_rst (s := s.drive i) (hrst.trans hr)]
    rfl
  | false =>
    obtain ⟨u, hu⟩ := hostStep_complete s.beginCycle
    have hhost := hostStep_sameOutsideHost hu
    have hpins : u.inputs = s.inputs := hhost.inputs
    have hacc : u.accepts u.inputs.busRsp = false := by
      rw [hpins, ← h]
      unfold State.accepts
      rw [hhost.acqPhase, State.beginCycle_acqPhase]
    have hdrive : hostStep (s.drive i).beginCycle = .next (u.drive i) := hostStep_drive (s := s.beginCycle) hreq hu
    rw [step_of_hostStep hr hu, step_of_hostStep (s := s.drive i) (hrst.trans hr) hdrive,
      acqNext_drive (by rw [hpins, hready]) hrsp hacc, actStep_drive]
    rfl

end Sys2Proof.Machine

namespace Sys2Proof.Proofs

open Sys2Proof.Machine

/-- Settles O34: the cycle with `bus_rsp` = NONE has the next state of the cycle itself. -/
theorem unawaitedResponsesAreIgnored : Obligations.UnawaitedResponsesAreIgnored := by
  intro s h
  obtain ⟨t, ht⟩ := step_complete s
  exact ⟨t, ht, (step_drive_of_not_accepts (i := { s.inputs with busRsp := .none }) rfl rfl rfl rfl h).trans ht⟩

/-- Settles O39: the model's own shift is the one of the rule, and the fold over a list takes its last byte last. -/
theorem crcIsTheStatedRecurrence : Obligations.CrcIsTheStatedRecurrence := by
  refine ⟨rfl, ⟨crcShift, fun c => ?_, fun bs b => ?_⟩, by decide +kernel, by decide +kernel, by decide +kernel,
    by decide +kernel⟩
  · rw [← BitVec.msb_eq_getLsbD_last c]
    rfl
  · rw [crc8_append_singleton, crcByte, crcShifts_eq_iterate]

/-- Settles O40: CRC8 is affine, so a flip is detected unless the flipped bit is a codeword of its own. -/
theorem everySingleBitFlipIsDetected : Obligations.EverySingleBitFlipIsDetected := by
  refine ⟨fun d0 d1 k hk hcheck => ?_, fun f k hf hk => ?_, by decide +kernel⟩
  · simp only [BitVec.extractLsb'_xor, extractLsb'_append_byte, lowByte_append_byte, Nat.reduceLeDiff,
      Nat.reduceSub, BitVec.extractLsb'_eq_self] at hcheck
    exact bit_not_codeword k hk ((codeword_xor_valid_iff rfl _ _ _).mp hcheck)
  · rw [ofBits_xor, Frame.ofBits_toBits, frameValid_withErrors hf]
    exact bit_not_errorsPass k hk

/-- Settles O38: each operation by its arm; the verdict of FRAME_CHECK is R114's conjunction. -/
theorem codecOperationsComplete : Obligations.CodecOperationsComplete := by
  intro s
  refine ⟨fun bs => rfl, ?_, rfl, fun r => rfl, fun r => rfl, fun h => rfl⟩
  rw [← frameValid_eq_decide]
  rfl

/-- Settles O41: the verdict as a conjunction, and the rule's frames computed. -/
theorem frameCheckNeedsBothCrcs : Obligations.FrameCheckNeedsBothCrcs :=
  ⟨frameValid_iff, by decide +kernel, by decide +kernel, by decide +kernel, by decide +kernel, by decide +kernel⟩

end Sys2Proof.Proofs

/-! PROOFS. The codec's two decoders (40_bus_codec.md R116, R117): `rne32` of any rational is a nearest binary32, the
even one of two as near, wherever it is finite; range and sign of the results follow from their being nearest. -/

namespace Sys2Proof.Machine

/-! ### The rounding of a quotient (R11) -/

/-- Rounding goes down to the quotient or up to the next number, to the nearer of them, in the middle to the even. -/
theorem roundHalfEven_cases (n d : Nat) :
    (roundHalfEven n d = n / d ∧ 2 * (n % d) ≤ d ∧ (2 * (n % d) = d → roundHalfEven n d % 2 = 0)) ∨
    (roundHalfEven n d = n / d + 1 ∧ d ≤ 2 * (n % d) ∧ (2 * (n % d) = d → roundHalfEven n d % 2 = 0)) := by
  unfold roundHalfEven
  split_ifs <;> omega

/-- What rounding adds or drops is at most half the divisor, and exactly half only at an even result. -/
theorem roundHalfEven_error (n : Nat) {d : Nat} (hd : 0 < d) :
    2 * |(roundHalfEven n d * d - n : ℤ)| ≤ d ∧
      (2 * |(roundHalfEven n d * d - n : ℤ)| = d → roundHalfEven n d % 2 = 0) := by
  have hdiv : (n / d : ℕ) * (d : ℤ) + (n % d : ℕ) = n := by exact_mod_cast Nat.div_add_mod' n d
  have hmod := Nat.mod_lt n hd
  rcases roundHalfEven_cases n d with ⟨hdown, hhalf, heven⟩ | ⟨hup, hhalf, heven⟩
  · have herr : (roundHalfEven n d * d - n : ℤ) = -(n % d : ℕ) := by
      rw [hdown]
      linarith
    rw [herr, abs_neg, Nat.abs_cast]
    omega
  · have herr : (roundHalfEven n d * d - n : ℤ) = (d - n % d : ℕ) := by
      rw [hup, Nat.cast_sub hmod.le, Nat.cast_succ]
      linarith
    rw [herr, Nat.abs_cast]
    omega

/-- No integer multiple of the divisor is nearer than the rounded one, and one as near leaves it even. -/
theorem roundHalfEven_nearest (n : Nat) {d : Nat} (hd : 0 < d) (k : ℤ) :
    |(roundHalfEven n d * d - n : ℤ)| ≤ |k * d - n| ∧
      (|(roundHalfEven n d * d - n : ℤ)| = |k * d - n| → k = roundHalfEven n d ∨ roundHalfEven n d % 2 = 0) := by
  obtain ⟨herr, heven⟩ := roundHalfEven_error n hd
  generalize roundHalfEven n d = m at *
  rcases eq_or_ne k m with rfl | hk
  · exact ⟨le_rfl, fun _ => .inl rfl⟩
  · have hapart : (d : ℤ) ≤ |k * d - n| + |(m * d - n : ℤ)| :=
      calc (d : ℤ) ≤ |k - m| * d := le_mul_of_one_le_left (by omega) (Int.one_le_abs (sub_ne_zero.mpr hk))
        _ = |(k * d - n) - (m * d - n)| := by rw [← Nat.abs_cast d, ← abs_mul, Nat.abs_cast]; ring_nf
        _ ≤ _ := abs_sub _ _
    exact ⟨by omega, fun heq => .inr (heven (by omega))⟩

/-- R11: the kept bits of `units / d`, rounded: the significand of the result. -/
def significandOf (units d : Nat) : Nat := roundHalfEven units (d * 2 ^ droppedBits (units / d))

theorem significandOf_le (units d : Nat) : significandOf units d ≤ 2 ^ 24 := by
  refine (roundHalfEven_le _ _).trans ?_
  rw [← Nat.div_div_eq_div_mul]
  exact div_two_pow_droppedBits_lt _

theorem le_significandOf {units d : Nat} (h : 0 < droppedBits (units / d)) : 2 ^ 23 ≤ significandOf units d := by
  refine le_trans ?_ (div_le_roundHalfEven _ _)
  rw [← Nat.div_div_eq_div_mul]
  exact two_pow_le_div_droppedBits h

/-- No multiple of the result's last place is nearer than the significand, and one as near leaves it even. -/
theorem significandOf_nearest_multiple (units : Nat) {d : Nat} (hd : 0 < d) (k : ℤ) :
    |(significandOf units d * 2 ^ droppedBits (units / d) * d - units : ℤ)| ≤
        |k * 2 ^ droppedBits (units / d) * d - units| ∧
      (|(significandOf units d * 2 ^ droppedBits (units / d) * d - units : ℤ)| =
        |k * 2 ^ droppedBits (units / d) * d - units| → k = significandOf units d ∨ significandOf units d % 2 = 0) := by
  have hnear := roundHalfEven_nearest units (d := d * 2 ^ droppedBits (units / d)) (by positivity) k
  have hscale : ∀ z : ℤ, z * 2 ^ droppedBits (units / d) * d = z * (d * 2 ^ droppedBits (units / d) : ℕ) := fun z => by
    push_cast
    ring
  rw [hscale, hscale]
  exact hnear

/-- The binade of the result starts at or below `units / d`, when bits are dropped. -/
theorem binade_start_le {units d : Nat} (hd : 0 < d) (h : 0 < droppedBits (units / d)) :
    2 ^ 23 * 2 ^ droppedBits (units / d) * d ≤ units := by
  have hkept := two_pow_le_div_droppedBits h
  rwa [Nat.le_div_iff_mul_le (by positivity), Nat.le_div_iff_mul_le hd] at hkept

/-- Below the result's binade every value is farther than the binade's start, which is a multiple of the last place: so
no value is nearer than the result, and one as near leaves the significand even. -/
theorem significandOf_nearest (units : Nat) {d : Nat} (hd : 0 < d) {z : ℤ}
    (hz : (2 ^ droppedBits (units / d) : ℤ) ∣ z ∨ z < 2 ^ 23 * 2 ^ droppedBits (units / d)) :
    |(significandOf units d * 2 ^ droppedBits (units / d) * d - units : ℤ)| ≤ |z * d - units| ∧
      (|(significandOf units d * 2 ^ droppedBits (units / d) * d - units : ℤ)| = |z * d - units| →
        z = significandOf units d * 2 ^ droppedBits (units / d) ∨ significandOf units d % 2 = 0) := by
  have hnear := significandOf_nearest_multiple units hd
  have hstart := binade_start_le (units := units) hd
  generalize significandOf units d = m at *
  generalize droppedBits (units / d) = sh at *
  by_cases hdvd : (2 ^ sh : ℤ) ∣ z
  · obtain ⟨k, rfl⟩ := hdvd
    rw [mul_comm _ k]
    exact ⟨(hnear k).1, fun heq => ((hnear k).2 heq).imp_left (congrArg (· * 2 ^ sh))⟩
  · have hsh : 0 < sh := Nat.pos_of_ne_zero fun h0 => hdvd (by simp [h0])
    have hle : (2 ^ 23 * 2 ^ sh * d : ℤ) ≤ units := by exact_mod_cast hstart hsh
    have hlow : z * d < 2 ^ 23 * 2 ^ sh * d := mul_lt_mul_of_pos_right (hz.resolve_left hdvd) (by exact_mod_cast hd)
    have hlt : |(m * 2 ^ sh * d - units : ℤ)| < |z * d - units| := by
      refine (hnear (2 ^ 23)).1.trans_lt ?_
      rw [abs_of_nonpos (sub_nonpos.mpr hle), abs_of_neg (sub_neg.mpr (hlow.trans_le hle))]
      linarith
    exact ⟨hlt.le, fun heq => absurd heq hlt.ne⟩

/-! ### Patterns and their values (R11) -/

/-- R11: a pattern is its exponent and its fraction: at the kept bits `m` of `m · 2^sh` it has that magnitude, and the
parity of `m`. -/
theorem magUnits_of_significand {b : U32} {sh m : Nat} (hb : b.toNat % 2 ^ 31 = sh * 2 ^ 23 + m)
    (hfin : sh * 2 ^ 23 + m < 0x7F800000) (hm : m ≤ 2 ^ 24) (hnorm : 0 < sh → 2 ^ 23 ≤ m) :
    magUnits b = m * 2 ^ sh ∧ fracField b % 2 = m % 2 := by
  have hexp := expField_eq b
  have hfrac := fracField_eq b
  refine ⟨?_, by omega⟩
  unfold magUnits
  rcases Nat.lt_or_ge m (2 ^ 23) with hsub | hnormal
  · obtain rfl : sh = 0 := by omega
    rw [if_pos (by omega), show fracField b = m by omega, pow_zero, mul_one]
  · rcases Nat.lt_or_eq_of_le hm with hlt | rfl
    · rw [if_neg (by omega), show expField b - 1 = sh by omega, show 2 ^ 23 + fracField b = m by omega]
    · rw [if_neg (by omega), show expField b - 1 = sh + 1 by omega, show fracField b = 0 by omega, pow_succ]
      ring

/-- R11: 24 significant bits: a magnitude is a multiple of `2^sh` or lies below the binade of 24 bits above `sh`. -/
theorem two_pow_dvd_magUnits_or_lt (b : U32) (sh : Nat) : 2 ^ sh ∣ magUnits b ∨ magUnits b < 2 ^ 23 * 2 ^ sh := by
  have hfrac : fracField b < 2 ^ 23 := by
    rw [fracField_eq]
    omega
  unfold magUnits
  split_ifs with hexp
  · exact .inr (hfrac.trans_le (Nat.le_mul_of_pos_right _ (by positivity)))
  · rcases Nat.lt_or_ge (expField b - 1) sh with hlt | hge
    · refine .inr ?_
      calc (2 ^ 23 + fracField b) * 2 ^ (expField b - 1)
          < 2 ^ 23 * 2 * 2 ^ (expField b - 1) := Nat.mul_lt_mul_of_pos_right (by omega) (by positivity)
        _ = 2 ^ 23 * 2 ^ (expField b - 1 + 1) := by ring
        _ ≤ 2 ^ 23 * 2 ^ sh := Nat.mul_le_mul_left _ (Nat.pow_le_pow_right (by decide) hlt)
    · exact .inl (Dvd.dvd.mul_left (Nat.pow_dvd_pow 2 hge) _)

/-- R11: a sign as a factor. -/
def signFactor (neg : Bool) : ℤ := if neg then -1 else 1

theorem abs_signFactor_mul (neg : Bool) (z : ℤ) : |signFactor neg * z| = |z| := by
  cases neg <;> simp [signFactor]

theorem signFactor_mul_self (neg : Bool) (z : ℤ) : signFactor neg * (signFactor neg * z) = z := by
  cases neg <;> simp [signFactor]

/-- R11: the value of a pattern in units of 2^-149. -/
def signedUnits (b : U32) : ℤ := signFactor b.msb * magUnits b

theorem val32_eq_signedUnits (b : U32) : val32 b = signedUnits b / 2 ^ 149 := by
  unfold val32 signedUnits signFactor
  split <;> simp

/-- The magnitude's alternative for a value of either sign, seen from either side of 0. -/
theorem two_pow_dvd_signedUnits_or_lt (neg : Bool) (b : U32) (sh : Nat) :
    (2 ^ sh : ℤ) ∣ signFactor neg * signedUnits b ∨ signFactor neg * signedUnits b < 2 ^ 23 * 2 ^ sh := by
  have habs : |signFactor neg * signedUnits b| = magUnits b := by
    rw [abs_signFactor_mul, signedUnits, abs_signFactor_mul, Nat.abs_cast]
  rcases two_pow_dvd_magUnits_or_lt b sh with hdvd | hlt
  · left
    rw [← dvd_abs, habs]
    exact_mod_cast hdvd
  · right
    refine (le_abs_self _).trans_lt ?_
    rw [habs]
    exact_mod_cast hlt

theorem signFactor_mul_num (q : ℚ) : signFactor (q.num < 0) * q.num = q.num.natAbs := by
  unfold signFactor
  split_ifs with h <;> rw [decide_eq_true_iff] at h <;> omega

/-- The distance of a value to a rational, over one denominator, on the side of the rational's sign. -/
theorem abs_val32_sub (b : U32) (q : ℚ) :
    |val32 b - q| = (|signFactor (q.num < 0) * signedUnits b * q.den - (q.num.natAbs * 2 ^ 149 : ℕ)| : ℤ) /
      (2 ^ 149 * q.den) := by
  have hden : (q.den : ℚ) ≠ 0 := by exact_mod_cast q.den_nz
  have hdiff : val32 b - q = ((signedUnits b * q.den - q.num * 2 ^ 149 : ℤ) : ℚ) / (2 ^ 149 * q.den) := by
    rw [val32_eq_signedUnits, eq_div_iff (by positivity)]
    push_cast
    rw [← Rat.mul_den_eq_num q]
    field_simp
    ring
  have hside : signFactor (q.num < 0) * (signedUnits b * q.den - q.num * 2 ^ 149) =
      signFactor (q.num < 0) * signedUnits b * q.den - (q.num.natAbs * 2 ^ 149 : ℕ) := by
    rw [Nat.cast_mul, ← signFactor_mul_num]
    push_cast
    ring
  rw [hdiff, abs_div, abs_of_pos (by positivity : (0 : ℚ) < 2 ^ 149 * q.den), ← Int.cast_abs, ← hside,
    abs_signFactor_mul]

/-! ### `rne32` is the nearest binary32 (R11) -/

theorem rne32_toNat_mod (q : ℚ) : (rne32 q).toNat % 2 ^ 31 = rneMagnitude q.num.natAbs q.den := by
  have hcut : rneMagnitude q.num.natAbs q.den ≤ 0x7F800000 := Nat.min_le_right _ _
  rw [← BitVec.toNat_setWidth, rne32, BitVec.setWidth_append_eq_right, BitVec.toNat_ofNat]
  omega

theorem rne32_msb (q : ℚ) : (rne32 q).msb = decide (q.num < 0) := by
  rw [rne32, BitVec.msb_append]
  simp

theorem isFinite_iff (b : U32) : isFinite b = true ↔ b.toNat % 2 ^ 31 < 0x7F800000 := by
  have hexp := expField_eq b
  rw [isFinite, bne_iff_ne]
  omega

/-- R11: `b` is a binary32 nearest to `q`, and its fraction is even where another value is as near. -/
def IsNearestEven (b : U32) (q : ℚ) : Prop :=
  ∀ c : U32, isFinite c = true →
    |val32 b - q| ≤ |val32 c - q| ∧ (|val32 b - q| = |val32 c - q| → val32 c = val32 b ∨ fracField b % 2 = 0)

/-- R11: the significand of a finite `rne32 q` is that of `q` in units of 2^-149. -/
theorem rne32_significand {q : ℚ} (hfin : isFinite (rne32 q) = true) :
    magUnits (rne32 q) = significandOf (q.num.natAbs * 2 ^ 149) q.den *
        2 ^ droppedBits (q.num.natAbs * 2 ^ 149 / q.den) ∧
      fracField (rne32 q) % 2 = significandOf (q.num.natAbs * 2 ^ 149) q.den % 2 := by
  have hmod : (rne32 q).toNat % 2 ^ 31 = min (magnitudeOf (q.num.natAbs * 2 ^ 149) q.den) 0x7F800000 :=
    (rne32_toNat_mod q).trans (rneMagnitude_eq _ _)
  rw [isFinite_iff] at hfin
  have hmag : (rne32 q).toNat % 2 ^ 31 = magnitudeOf (q.num.natAbs * 2 ^ 149) q.den := by omega
  exact magUnits_of_significand hmag (lt_of_eq_of_lt hmag.symm hfin) (significandOf_le _ _) le_significandOf

/-- R11: where `rne32` is finite it is the nearest binary32, ties to even. -/
theorem rne32_isNearestEven {q : ℚ} (hfin : isFinite (rne32 q) = true) : IsNearestEven (rne32 q) q := by
  intro c _
  obtain ⟨hunits, hparity⟩ := rne32_significand hfin
  obtain ⟨hle, htie⟩ := significandOf_nearest (q.num.natAbs * 2 ^ 149) q.den_pos
    (two_pow_dvd_signedUnits_or_lt (q.num < 0) c _)
  have hself : (significandOf (q.num.natAbs * 2 ^ 149) q.den * 2 ^ droppedBits (q.num.natAbs * 2 ^ 149 / q.den) : ℤ) =
      signFactor (q.num < 0) * signedUnits (rne32 q) := by
    rw [signedUnits, rne32_msb, signFactor_mul_self, hunits]
    push_cast
    rfl
  rw [hself] at hle htie
  have hdpos : (0 : ℚ) < 2 ^ 149 * q.den := by exact_mod_cast Nat.mul_pos (by decide) q.den_pos
  rw [abs_val32_sub, abs_val32_sub, div_le_div_iff_of_pos_right hdpos, div_left_inj' hdpos.ne', Int.cast_le,
    Int.cast_inj, hparity]
  refine ⟨hle, fun heq => (htie heq).imp_left fun hz => ?_⟩
  rw [val32_eq_signedUnits, val32_eq_signedUnits, ← signFactor_mul_self (q.num < 0) (signedUnits c), hz,
    signFactor_mul_self]

/-! ### What follows from being nearest -/

/-- No value below `q` is passed. -/
theorem IsNearestEven.le_val32 {b c : U32} {q : ℚ} (h : IsNearestEven b q) (hc : isFinite c = true)
    (hcq : val32 c ≤ q) : val32 c ≤ val32 b := by
  have hdist := (h c hc).1
  rw [abs_of_nonpos (sub_nonpos.mpr hcq)] at hdist
  have := (abs_le.mp hdist).1
  linarith

/-- No value above `q` is passed. -/
theorem IsNearestEven.val32_le {b c : U32} {q : ℚ} (h : IsNearestEven b q) (hc : isFinite c = true)
    (hqc : q ≤ val32 c) : val32 b ≤ val32 c := by
  have hdist := (h c hc).1
  rw [abs_of_nonneg (sub_nonneg.mpr hqc)] at hdist
  have := (abs_le.mp hdist).2
  linarith

theorem abs_val32 (b : U32) : |val32 b| = magUnits b / 2 ^ 149 := by
  rw [val32_eq_signedUnits, abs_div, abs_of_pos (by positivity : (0 : ℚ) < 2 ^ 149), ← Int.cast_abs, signedUnits,
    abs_signFactor_mul, Nat.abs_cast, Int.cast_natCast]

/-- R11: the subnormals lie below the least normal value. -/
theorem abs_val32_lt_of_subnormal {b : U32} (h : expField b = 0) : |val32 b| < 1 / 2 ^ 126 := by
  have hmag : magUnits b < 2 ^ 23 := by
    rw [magUnits, if_pos h, fracField_eq]
    omega
  have hcast : (magUnits b : ℚ) < 2 ^ 23 := by exact_mod_cast hmag
  rw [abs_val32, div_lt_iff₀ (by positivity)]
  linarith

theorem val32_ne_zero_of_normal {b : U32} (h : 1 ≤ expField b) : val32 b ≠ 0 := by
  have hmag : magUnits b ≠ 0 := by
    rw [magUnits, if_neg (by omega)]
    positivity
  rw [← abs_pos, abs_val32]
  positivity

theorem val32_leastNormal : val32 0x00800000#32 = 1 / 2 ^ 126 := by
  have h : signedUnits 0x00800000#32 = 2 ^ 23 := by decide +kernel
  rw [val32_eq_signedUnits, h]
  norm_num

theorem val32_neg_leastNormal : val32 0x80800000#32 = -(1 / 2 ^ 126) := by
  have h : signedUnits 0x80800000#32 = -2 ^ 23 := by decide +kernel
  rw [val32_eq_signedUnits, h]
  norm_num

/-- What is nearest to a rational of normal size is normal: the least normal value of its sign is not passed. -/
theorem IsNearestEven.normal {b : U32} {q : ℚ} (h : IsNearestEven b q) (hq : 1 / 2 ^ 126 ≤ |q|) : 1 ≤ expField b := by
  by_contra hsub
  have hsmall := abs_lt.mp (abs_val32_lt_of_subnormal (b := b) (by omega))
  rcases le_abs.mp hq with hpos | hneg
  · have := h.le_val32 (c := 0x00800000#32) (by decide) (by rwa [val32_leastNormal])
    rw [val32_leastNormal] at this
    linarith [hsmall.2]
  · have := h.val32_le (c := 0x80800000#32) (by decide) (by rw [val32_neg_leastNormal]; linarith)
    rw [val32_neg_leastNormal] at this
    linarith [hsmall.1]

/-! ### DECODE_T and DECODE_RH (R116, R117) -/

/-- R116: the exact temperature of a raw word. -/
def exactTemperature (r : U16) : ℚ := -45 + 175 * r.toNat / 65535

theorem exactTemperature_mem (r : U16) : -45 ≤ exactTemperature r ∧ exactTemperature r ≤ 130 := by
  have hr : (r.toNat : ℚ) ≤ 65535 := by exact_mod_cast Nat.le_of_lt_succ r.isLt
  have hr0 : (0 : ℚ) ≤ r.toNat := Nat.cast_nonneg _
  unfold exactTemperature
  constructor <;> linarith

/-- R116: 175 does not divide 45 · 65535, so the exact value is never 0, nor anywhere near the subnormals. -/
theorem le_abs_exactTemperature (r : U16) : 1 / 2 ^ 126 ≤ |exactTemperature r| := by
  have hq : exactTemperature r = ((175 * r.toNat - 2949075 : ℤ) : ℚ) / 65535 := by
    unfold exactTemperature
    push_cast
    ring
  have hne : (175 * r.toNat - 2949075 : ℤ) ≠ 0 := by omega
  have hone : (1 : ℚ) ≤ |((175 * r.toNat - 2949075 : ℤ) : ℚ)| := by exact_mod_cast Int.one_le_abs hne
  rw [hq, abs_div, abs_of_pos (by norm_num : (0 : ℚ) < 65535), le_div_iff₀ (by norm_num)]
  linarith

theorem isFinite_decodeTemperature (r : U16) : isFinite (decodeTemperature r) = true := by
  have hmono : rneMagnitude (175 * (r.toNat : ℤ) - 2949075).natAbs 65535 ≤ rneMagnitude 8519550 65535 :=
    rneMagnitude_mono (by have := r.isLt; omega) _
  have hmax : rneMagnitude 8519550 65535 = 0x43020000 := by decide +kernel
  rw [isFinite_iff, decodeTemperature_eq, ← BitVec.toNat_setWidth, BitVec.setWidth_append_eq_right, BitVec.toNat_ofNat]
  omega

theorem decodeTemperature_isNearestEven (r : U16) : IsNearestEven (decodeTemperature r) (exactTemperature r) :=
  rne32_isNearestEven (isFinite_decodeTemperature r)

theorem val32_neg_fortyFive : val32 0xC2340000#32 = -45 := by
  have h : signedUnits 0xC2340000#32 = -45 * 2 ^ 149 := by decide +kernel
  rw [val32_eq_signedUnits, h]
  norm_num

theorem val32_oneHundredThirty : val32 0x43020000#32 = 130 := by
  have h : signedUnits 0x43020000#32 = 130 * 2 ^ 149 := by decide +kernel
  rw [val32_eq_signedUnits, h]
  norm_num

/-- R116: the ends of the range are binary32 values themselves, and no result passes them. -/
theorem val32_decodeTemperature_mem (r : U16) :
    -45 ≤ val32 (decodeTemperature r) ∧ val32 (decodeTemperature r) ≤ 130 := by
  have hnear := decodeTemperature_isNearestEven r
  obtain ⟨hlow, hhigh⟩ := exactTemperature_mem r
  rw [← val32_neg_fortyFive] at hlow ⊢
  rw [← val32_oneHundredThirty] at hhigh ⊢
  exact ⟨hnear.le_val32 (by decide) hlow, hnear.val32_le (by decide) hhigh⟩

/-- R117: the exact humidity of a raw word. -/
def exactHumidity (r : U16) : ℚ := 100 * r.toNat / 65535

theorem decodeHumidity_isNearestEven (r : U16) : IsNearestEven (decodeHumidity r) (exactHumidity r) :=
  rne32_isNearestEven (humidityInRange_decodeHumidity r).1

theorem le_abs_exactHumidity {r : U16} (h : r ≠ 0x0000#16) : 1 / 2 ^ 126 ≤ |exactHumidity r| := by
  have hr : 1 ≤ r.toNat := Nat.one_le_iff_ne_zero.mpr fun h0 => h (BitVec.eq_of_toNat_eq h0)
  have hcast : (1 : ℚ) ≤ r.toNat := by exact_mod_cast hr
  unfold exactHumidity
  rw [abs_of_nonneg (by positivity), le_div_iff₀ (by norm_num)]
  linarith

theorem decodeHumidity_zero : decodeHumidity 0x0000#16 = 0x00000000#32 := by
  rw [decodeHumidity_eq]
  decide +kernel

theorem val32_zero : val32 0x00000000#32 = 0 := by
  have h : signedUnits 0x00000000#32 = 0 := by decide +kernel
  rw [val32_eq_signedUnits, h]
  norm_num

/-- R117: the result is 0 for the raw word 0 alone. -/
theorem val32_decodeHumidity_eq_zero_iff (r : U16) : val32 (decodeHumidity r) = 0 ↔ r = 0x0000#16 := by
  constructor
  · intro h0
    by_contra hr
    exact val32_ne_zero_of_normal ((decodeHumidity_isNearestEven r).normal (le_abs_exactHumidity hr)) h0
  · rintro rfl
    rw [decodeHumidity_zero, val32_zero]

end Sys2Proof.Machine

namespace Sys2Proof.Proofs

open Sys2Proof.Machine

/-- Settles O42: DECODE_T is `rne32` of the exact value, whose distance to 0 and to the range's ends does the rest. -/
theorem temperatureIsTheNearestBinary32 : Obligations.TemperatureIsTheNearestBinary32 := by
  refine ⟨fun r => ?_, ?_, ?_, ?_, ?_⟩
  · have hnear := decodeTemperature_isNearestEven r
    have hnormal := hnear.normal (le_abs_exactTemperature r)
    obtain ⟨hlow, hhigh⟩ := val32_decodeTemperature_mem r
    exact ⟨isFinite_decodeTemperature r, hnormal, hlow, hhigh, val32_ne_zero_of_normal hnormal, hnear⟩
  all_goals
    rw [decodeTemperature_eq]
    decide +kernel

/-- Settles O43: DECODE_RH is `rne32` of the exact value; its range is that of R40. -/
theorem humidityIsTheNearestBinary32 : Obligations.HumidityIsTheNearestBinary32 := by
  refine ⟨fun r => ?_, decodeHumidity_zero, decodeHumidity_max, ?_, ?_, ?_, ?_⟩
  · obtain ⟨hfin, hlow, hhigh⟩ := humidityInRange_decodeHumidity r
    exact ⟨hfin, hlow, hhigh, val32_decodeHumidity_eq_zero_iff r, decodeHumidity_isNearestEven r⟩
  all_goals
    rw [decodeHumidity_eq]
    decide +kernel

end Sys2Proof.Proofs

/-! PROOFS. The Fixed-Point Telemetry Encoder (41_telemetry_encoder.md R150 to R156): ENCODE as a floor, and TV against
the ideal integer formula. DECODE_RH errs by at most 2^-18, so that TV can differ from the ideal value only where the
ideal product lies about as near to a half-integer: at the 50 raw words of ten residue classes. -/

namespace Sys2Proof.Machine

/-! ### Rounding half away from zero (R11, R151) -/

theorem floor_div_add_half (n : Nat) {d : Nat} (hd : 0 < d) :
    ⌊(n : ℚ) / d + 1 / 2⌋ = ((2 * n + d) / (2 * d) : Nat) := by
  have hsum : (n : ℚ) / d + 1 / 2 = ((2 * n + d : Nat) : ℚ) / ((2 * d : Nat) : ℚ) := by
    push_cast
    field_simp
  rw [hsum, Rat.floor_natCast_div_natCast, Int.natCast_div]

/-- R11: `roundHalfAway` as a floor, on either side of 0. -/
theorem roundHalfAway_eq_floor (q : ℚ) :
    roundHalfAway q = if q < 0 then -⌊-q + 1 / 2⌋ else ⌊q + 1 / 2⌋ := by
  have hfloor := floor_div_add_half q.num.natAbs q.den_pos
  have habs : (q.num.natAbs : ℚ) / q.den = |q| := by
    rw [← Rat.num_div_den |q|, Rat.num_abs_eq_abs_num, Rat.den_abs_eq_den, Int.abs_eq_natAbs, Int.cast_natCast]
  rw [habs] at hfloor
  rw [roundHalfAway, ← hfloor]
  rcases lt_trichotomy q 0 with hneg | rfl | hpos
  · rw [if_pos hneg, abs_of_neg hneg, Int.sign_eq_neg_one_of_neg (Rat.num_neg.mpr hneg), neg_one_mul]
  · norm_num
  · rw [if_neg hpos.not_gt, abs_of_pos hpos, Int.sign_eq_one_of_pos (Rat.num_pos.mpr hpos), one_mul]

/-- R151: ENCODE of a finite pattern, by the sign of its value. -/
theorem encodeHumidity_eq_floor {h : U32} (hfin : isFinite h = true) :
    encodeHumidity h = BitVec.ofInt 16
      (if val32 h < 0 then -⌊-(val32 h * 100) + 1 / 2⌋ else ⌊val32 h * 100 + 1 / 2⌋) := by
  have hsign : val32 h * 100 < 0 ↔ val32 h < 0 := by constructor <;> intro _ <;> linarith
  rw [encodeHumidity, if_pos hfin, roundHalfAway_eq_floor, if_congr hsign rfl rfl]

/-- R153: exponent field 0xFF. -/
theorem encodeHumidity_nonfinite {h : U32} (hexp : expField h = 0xFF) : encodeHumidity h = Config.encNonfinite := by
  rw [encodeHumidity, isFinite, hexp]
  rfl

/-! ### The error of DECODE_RH (R117) -/

/-- R117: the significand of DECODE_RH's result, in units of 2^-149. -/
theorem magUnits_decodeHumidity (r : U16) :
    magUnits (decodeHumidity r) = significandOf (100 * r.toNat * 2 ^ 149) 65535 *
      2 ^ droppedBits (100 * r.toNat * 2 ^ 149 / 65535) := by
  have hle := decodeHumidity_le r
  have hnat := decodeHumidity_toNat r
  rw [rneMagnitude_eq] at hnat
  have hmag : (decodeHumidity r).toNat % 2 ^ 31 = magnitudeOf (100 * r.toNat * 2 ^ 149) 65535 := by omega
  have hfin : magnitudeOf (100 * r.toNat * 2 ^ 149) 65535 < 0x7F800000 := by omega
  exact (magUnits_of_significand hmag hfin (significandOf_le _ _) le_significandOf).1

/-- R117: up to 100 %RH the last place is at most 2^132 units of 2^-149, that is 2^-17. -/
theorem droppedBits_humidity_le (r : U16) : droppedBits (100 * r.toNat * 2 ^ 149 / 65535) ≤ 132 := by
  have hmax : droppedBits (100 * 2 ^ 149) = 132 := by decide +kernel
  rw [← hmax]
  exact droppedBits_mono (by omega)

/-- R117: DECODE_RH errs by at most half of 2^-17; here in units of 2^-149, times 65535. -/
theorem decodeHumidity_error (r : U16) :
    |(65535 * magUnits (decodeHumidity r) - 100 * 2 ^ 149 * r.toNat : ℤ)| ≤ 65535 * 2 ^ 131 := by
  have hplace : 2 ^ droppedBits (100 * r.toNat * 2 ^ 149 / 65535) ≤ 2 ^ 132 :=
    Nat.pow_le_pow_right (by decide) (droppedBits_humidity_le r)
  have hpos : 0 < 2 ^ droppedBits (100 * r.toNat * 2 ^ 149 / 65535) := by positivity
  have hmag := magUnits_decodeHumidity r
  unfold significandOf at hmag
  generalize 2 ^ droppedBits (100 * r.toNat * 2 ^ 149 / 65535) = place at *
  have herr := (roundHalfEven_error (100 * r.toNat * 2 ^ 149) (Nat.mul_pos (by decide : 0 < 65535) hpos)).1
  have hdiff : (roundHalfEven (100 * r.toNat * 2 ^ 149) (65535 * place) * (65535 * place : ℕ) -
      (100 * r.toNat * 2 ^ 149 : ℕ) : ℤ) = 65535 * magUnits (decodeHumidity r) - 100 * 2 ^ 149 * r.toNat := by
    rw [hmag]
    push_cast
    ring
  rw [hdiff] at herr
  omega

/-! ### TV on the HBC's own path (R154) -/

/-- R154: TV is the rounded product itself. -/
theorem tvOf_eq_floor (r : U16) : ((tvOf r).toNat : ℤ) = ⌊val32 (decodeHumidity r) * 100 + 1 / 2⌋ := by
  have hle := decodeHumidity_le r
  have hval : val32 (decodeHumidity r) * 100 = ((100 * magUnits (decodeHumidity r) : Nat) : ℚ) / (2 ^ 149 : Nat) := by
    rw [val32_of_lt (by omega)]
    push_cast
    ring
  rw [hval, floor_div_add_half _ (by positivity), tvOf_toNat,
    show 2 * (100 * magUnits (decodeHumidity r)) = 200 * magUnits (decodeHumidity r) by omega]

/-- R154: TV does not fall as the raw word rises. -/
theorem tvOf_mono {r q : U16} (h : r.toNat ≤ q.toNat) : (tvOf r).toNat ≤ (tvOf q).toNat := by
  have hle := decodeHumidity_le q
  have hmag := magUnits_mono (decodeHumidity_mono h) (by omega)
  rw [tvOf_toNat, tvOf_toNat]
  omega

/-- R154: the ideal value of TV, `10000 · raw / 65535` rounded. -/
def idealTv (raw : Nat) : Nat := (20000 * raw + 65535) / 131070

/-- The ideal product lies within 50/131070 of a half-integer; the remainder of `idealTv`'s division counts, in units of
1/131070, how far above one it lies. An error of 100 · 2^-18 is just below 50 of these units. -/
def nearHalfInteger (raw : Nat) : Prop :=
  (20000 * raw + 65535) % 131070 < 50 ∨ 131020 < (20000 * raw + 65535) % 131070

/-- R154: away from the half-integers the error of DECODE_RH does not show in TV. -/
theorem tvOf_eq_idealTv_of_not_near {r : U16} (h : ¬ nearHalfInteger r.toNat) : (tvOf r).toNat = idealTv r.toNat := by
  have herr := abs_le.mp (decodeHumidity_error r)
  unfold nearHalfInteger at h
  rw [tvOf_toNat, idealTv]
  omega

/-- The residues mod 13107 (a fifth of 65535) of the raw words near a half-integer: the multiples of 4073, by the odd
numbers below 10, and of its negative 9034. -/
def nearResidues : List Nat :=
  (List.range 5).flatMap fun i => [4073 * (2 * i + 1) % 13107, 9034 * (2 * i + 1) % 13107]

/-- The remainder is an odd multiple of 5 or falls short of 131070 by one, and 4000 · 4073 is -1 mod 13107. -/
theorem mod_mem_nearResidues {raw : Nat} (h : nearHalfInteger raw) : raw % 13107 ∈ nearResidues := by
  simp only [nearResidues, List.mem_flatMap, List.mem_range, List.mem_cons, List.not_mem_nil, or_false]
  have hten : (20000 * raw + 65535) % 131070 % 10 = 5 := by omega
  rcases h with hlow | hhigh
  · obtain ⟨i, hi⟩ : ∃ i, (20000 * raw + 65535) % 131070 = 10 * i + 5 :=
      ⟨(20000 * raw + 65535) % 131070 / 10, by omega⟩
    exact ⟨i, by omega, .inr (by omega)⟩
  · obtain ⟨i, hi⟩ : ∃ i, (20000 * raw + 65535) % 131070 + (10 * i + 5) = 131070 :=
      ⟨(131070 - (20000 * raw + 65535) % 131070) / 10, by omega⟩
    exact ⟨i, by omega, .inl (by omega)⟩

/-- R154's table: the raw words whose TV is not the ideal value. -/
def offIdealRaws : List Nat := [17180, 22141, 25326, 27102, 30287, 35248, 38433, 40209]

/-- R154: the five raw words of each of the ten residues, all but those of the table. -/
theorem tvOf_eq_idealTv_of_mem_nearResidues :
    ∀ c ∈ nearResidues, ∀ t < 5, t * 13107 + c ∉ offIdealRaws →
      (tvOf (BitVec.ofNat 16 (t * 13107 + c))).toNat = idealTv (t * 13107 + c) := by
  decide +kernel

/-- R154: but for the eight raw words of the table TV is the ideal value. -/
theorem tvOf_eq_idealTv {r : U16} (h : r.toNat ∉ offIdealRaws) : (tvOf r).toNat = idealTv r.toNat := by
  by_cases hnear : nearHalfInteger r.toNat
  · have hres := mod_mem_nearResidues hnear
    have hpos : r.toNat % 13107 ≠ 0 := fun h0 => absurd (h0 ▸ hres) (by decide)
    have hsplit : r.toNat / 13107 * 13107 + r.toNat % 13107 = r.toNat := Nat.div_add_mod' _ _
    have hcheck := tvOf_eq_idealTv_of_mem_nearResidues _ hres (r.toNat / 13107) (by omega)
    rw [hsplit, BitVec.ofNat_toNat, BitVec.setWidth_eq] at hcheck
    exact hcheck h
  · exact tvOf_eq_idealTv_of_not_near hnear

/-! ### The product and the half-integers (R155) -/

/-- R155: a half-integer product makes the humidity an odd multiple of 1/8. -/
theorem exists_odd_eighths {r : U16} {k : ℤ} (h : val32 (decodeHumidity r) * 100 = k + 1 / 2) :
    ∃ j : ℤ, magUnits (decodeHumidity r) = 2 ^ 146 * j ∧ 25 * j = 2 * k + 1 := by
  have hle := decodeHumidity_le r
  rw [val32_of_lt (by omega), div_mul_eq_mul_div, div_eq_iff (by positivity)] at h
  have hunits : (25 * magUnits (decodeHumidity r) : ℤ) = 2 ^ 146 * (2 * k + 1) := by
    have : (25 * magUnits (decodeHumidity r) : ℚ) = 2 ^ 146 * (2 * k + 1) := by linarith
    exact_mod_cast this
  have hdvd : (2 ^ 146 : ℤ) ∣ magUnits (decodeHumidity r) :=
    Int.dvd_of_dvd_mul_right_of_gcd_one (Dvd.intro _ hunits.symm) (by norm_num)
  obtain ⟨j, hj⟩ := hdvd
  exact ⟨j, hj, by rw [hj] at hunits; linarith⟩

/-- R155: an odd number of eighths within 2^-18 of the exact humidity is no more than 1 from it over 65535 · 8; but their
difference there is odd and a multiple of 5. -/
theorem val32_decodeHumidity_mul_hundred_ne (r : U16) (k : ℤ) : val32 (decodeHumidity r) * 100 ≠ k + 1 / 2 := by
  intro hhalf
  obtain ⟨j, heighths, hodd⟩ := exists_odd_eighths hhalf
  have herr := abs_le.mp (decodeHumidity_error r)
  rw [heighths] at herr
  have hclose : -1 ≤ 65535 * j - 800 * r.toNat ∧ 65535 * j - 800 * r.toNat ≤ 1 := by omega
  have hmultiple : (65535 * j - 800 * r.toNat) % 5 = 0 := by omega
  omega

end Sys2Proof.Machine

namespace Sys2Proof.Proofs

open Sys2Proof.Machine

/-- Settles O44: `roundHalfAway` as a floor; the range of DECODE_RH is that of R40. -/
theorem encodeRoundsTheExactProduct : Obligations.EncodeRoundsTheExactProduct :=
  ⟨fun _ => encodeHumidity_eq_floor, fun _ => encodeHumidity_nonfinite, humidityInRange_decodeHumidity,
    by decide +kernel, by decide +kernel, by decide +kernel, by decide +kernel, by decide +kernel, by decide +kernel,
    by decide +kernel, by decide +kernel⟩

/-- Settles O45: away from the half-integers by the error of DECODE_RH, near them by the 50 raw words. -/
theorem telemetryOnTheOwnPath : Obligations.TelemetryOnTheOwnPath := by
  refine ⟨fun r => ⟨tvOf_le r, tvOf_eq_floor r⟩, fun _ _ => tvOf_mono, fun _ => tvOf_eq_idealTv, ?_⟩
  decide +kernel

/-- Settles O46: a half-integer product would be too far from the exact one. -/
theorem productIsNeverAHalfInteger : Obligations.ProductIsNeverAHalfInteger :=
  val32_decodeHumidity_mul_hundred_ne

/-- Settles O47: the vectors computed. -/
theorem roundTripVectors : Obligations.RoundTripVectors :=
  ⟨by decide +kernel, by decide +kernel, by decide +kernel, by decide +kernel, by decide +kernel⟩

end Sys2Proof.Proofs

/-! PROOFS. The statements about the host port and the router (42_host_port_router.md): what the requests answer, which
cycles notify and write TV, and that TV stays along a run with no successful EVAL. -/

namespace Sys2Proof.Machine

/-! ### The host requests (R172 to R177) -/

/-- R83: the operation of a word whose OP is known. -/
theorem decodeHreq_of_hreqOp {w : U16} {op : BitVec 3} (h : hreqOp w = op) :
    decodeHreq w = hreqInstr op (hreqAddr w) (hreqData w) := by
  rw [decodeHreq_eq_hreqInstr, h]

theorem exec_humRead (a : BitVec 5) (d : Byte) (s : State) :
    exec (.humRead a d) s = .next (s.respond (zext32 16 s.tv)) := rfl

/-- R173: the host port under a HUM_READ. -/
theorem hostStep_of_humRead {s : State} (h : hreqOp s.inputs.hreq = 0b001#3) :
    hostStep s = .next (s.respond (zext32 16 s.tv)) :=
  (congrArg (exec · s) (decodeHreq_of_hreqOp h)).trans (exec_humRead _ _ s)

/-! ### The successful EVAL (R180, R235) -/

/-- R235: the cycle of `s` ends an iteration with success: EVAL with a frame that passes the check. -/
def State.succeeds (s : State) : Prop := s.acqPhase = .eval ∧ frameValid s.frame = true

theorem acqNext_of_succeeds {s : State} (h : s.succeeds) : s.acqNext = s.acceptFrame := by
  obtain ⟨hp, hf⟩ := h
  rw [State.acqNext, hp]
  exact if_pos hf

/-- In a cycle without success the loop leaves TV and NOTIFY alone, and any DIAG event of its own is an error's. -/
theorem acqNext_of_not_succeeds {s : State} (h : ¬ s.succeeds) :
    s.acqNext.tv = s.tv ∧ s.acqNext.outputs.notify = s.outputs.notify ∧
      (s.acqNext.outputs.diag = some .ok → s.outputs.diag = some .ok) := by
  unfold State.acqNext
  split
  next => split <;> simp
  next => unfold State.awaitWrite; split <;> simp
  next => split <;> simp
  next => unfold State.readNext; split <;> simp
  next hp =>
    rw [if_neg fun hf => h ⟨hp, hf⟩]
    simp
  next => split <;> simp

/-- R39: the loop's part of a cycle without reset is the loop's own step, whatever the host asks in it. -/
theorem step_next_sameLoop {s t : State} (hr : s.inputs.rst = false) (ht : step s = .next t) :
    SameLoop s.beginCycle.acqNext t := by
  obtain ⟨u, hu⟩ := hostStep_complete s.beginCycle
  rw [step_of_hostStep hr hu, Host.Outcome.next.injEq] at ht
  exact ht ▸ step_sameLoop hu

/-- R180, R235: what a cycle with success leaves of TV, NOTIFY and DIAG. -/
theorem step_of_succeeds {s t : State} (hr : s.inputs.rst = false) (h : s.succeeds) (ht : step s = .next t) :
    t.tv = tvOf (frameRawRH s.frame) ∧ t.outputs.notify = some (tvOf (frameRawRH s.frame)) ∧
      t.outputs.diag = some .ok := by
  have hloop := step_next_sameLoop hr ht
  rw [acqNext_of_succeeds (s := s.beginCycle) h] at hloop
  exact ⟨hloop.tv, hloop.notify, hloop.diag⟩

/-- R180, R235: any other cycle keeps TV, does not notify and emits no DIAG(OK). -/
theorem step_of_not_succeeds {s t : State} (hr : s.inputs.rst = false) (h : ¬ s.succeeds) (ht : step s = .next t) :
    t.tv = s.tv ∧ t.outputs.notify = none ∧ t.outputs.diag ≠ some .ok := by
  have hloop := step_next_sameLoop hr ht
  obtain ⟨htv, hnotify, hdiag⟩ := acqNext_of_not_succeeds (s := s.beginCycle) h
  exact ⟨hloop.tv.trans htv, hloop.notify.trans hnotify, fun hok => nomatch hdiag (hloop.diag.symm.trans hok)⟩

/-! ### Along a run (R39, R41) -/

/-- A cycle moves the pins on by one, reset or not (log 1). -/
theorem step_inputAt {s t : State} (ht : step s = .next t) (j : Nat) : t.inputAt j = s.inputAt (j + 1) := by
  cases hr : s.inputs.rst with
  | true =>
    rw [step_of_rst hr, Host.Outcome.next.injEq] at ht
    rw [← ht, resetCycle_inputAt]
  | false =>
    obtain ⟨u, hu⟩ := hostStep_complete s.beginCycle
    rw [step_of_hostStep hr hu, Host.Outcome.next.injEq] at ht
    have hhost := step_hostPart hu
    rw [← ht, endCycle_inputAt, State.inputAt, State.inputAt, hhost.stimuli, hhost.cycle]
    rfl

/-- The pins `k` cycles into a run are those the start has for that cycle (log 1). -/
theorem runs_inputAt {s u : State} {k : Nat} (h : Runs s k u) (j : Nat) : u.inputAt j = s.inputAt (k + j) := by
  induction h generalizing j with
  | done s => rw [Nat.zero_add]
  | cycle ht _ ih => rw [ih, step_inputAt ht, Nat.add_right_comm]

theorem runs_inputs_rst {s u : State} {n k : Nat} (hr : s.noReset n) (hk : k < n) (h : Runs s k u) :
    u.inputs.rst = false := by
  rw [State.inputs, runs_inputAt h]
  exact hr k hk

/-- What holds at the start of a run and what every cycle of the run keeps holds at its end. -/
theorem runs_induction {P : State → Prop} {s u : State} {n : Nat} (h : Runs s n u) (hs : P s)
    (hstep : ∀ k < n, ∀ v t, Runs s k v → step v = .next t → P v → P t) : P u := by
  induction h with
  | done => exact hs
  | cycle ht _ ih =>
    refine ih (hstep 0 (Nat.succ_pos _) _ _ (.done _) ht hs) fun k hk v t hv => ?_
    exact hstep (k + 1) (Nat.succ_lt_succ hk) v t (.cycle ht hv)

/-- R173: TV stays along a run with no reset and no success. -/
theorem runs_tv {s u : State} {n : Nat} (hr : s.noReset n) (hfail : ∀ k < n, ∀ v, Runs s k v → ¬ v.succeeds)
    (h : Runs s n u) : u.tv = s.tv :=
  runs_induction (P := fun v => v.tv = s.tv) h rfl fun k hk v _ hv ht hkept =>
    (step_of_not_succeeds (runs_inputs_rst hr hk hv) (hfail k hk v hv) ht).1.trans hkept

end Sys2Proof.Machine

namespace Sys2Proof.Proofs

open Sys2Proof.Machine

/-- Settles O16: the answer is fixed before the loop writes TV, and only a successful EVAL writes it. -/
theorem humReadAnswersTv : Obligations.HumReadAnswersTv := by
  refine ⟨fun w h => decodeHreq_of_hreqOp h, fun s a d => exec_humRead a d s, fun s hr hop => ?_,
    fun s n hr hfail => ?_, rfl⟩
  · have hu := hostStep_of_humRead (s := s.beginCycle) hop
    refine ⟨_, step_of_hostStep hr hu, (step_hostPart hu).hrsp, fun hno => ?_⟩
    have hfail : ¬ s.succeeds := fun ⟨hp, hf⟩ => hno.elim (absurd hp) (by simp [hf])
    exact (step_of_not_succeeds hr hfail (step_of_hostStep hr hu)).1
  · obtain ⟨u, hu⟩ := exists_runs n s
    exact ⟨u, hu, runs_tv hr hfail hu⟩

/-- Settles O19: CMD_WRITE is its byte's row after the answer, and its write wins the merge of SLOT. -/
theorem commandWriteFillsTheSlot : Obligations.CommandWriteFillsTheSlot := by
  refine ⟨fun w h => decodeHreq_of_hreqOp h, fun s a c => ?_, fun s hr hop => ?_⟩
  · rw [exec_cmdWrite, exec_decodeCmdb]
    rfl
  · have hu := hostStep_of_cmdWrite (s := s.beginCycle) hop
    have hhost := step_hostPart hu
    refine ⟨_, step_of_hostStep hr hu, hhost.cmdLast, hhost.hrsp, ?_⟩
    rw [State.endCycle_slot, hhost.slotSet]
    rfl

/-- Settles O49: the cycles with success and the others. -/
theorem notifyExactlyOnSuccess : Obligations.NotifyExactlyOnSuccess := by
  intro s hr
  obtain ⟨t, ht⟩ := step_complete s
  refine ⟨t, ht, ?_⟩
  by_cases h : s.succeeds
  · obtain ⟨htv, hnotify, hdiag⟩ := step_of_succeeds hr h ht
    obtain ⟨hp, hf⟩ := h
    rw [htv, hnotify, hdiag]
    simp [hp, hf, frameRawRH, eq_comm]
  · obtain ⟨-, hnotify, hdiag⟩ := step_of_not_succeeds hr h ht
    rw [hnotify]
    exact ⟨fun v => ⟨nofun, fun ⟨hp, hf, _⟩ => absurd ⟨hp, hf⟩ h⟩, nofun, fun hne => absurd rfl hne,
      fun hok => absurd hok hdiag⟩

/-- Settles O15: the opcode map at the five opcodes, and the arms of their operations. -/
theorem requestsWithoutEffectAnswerZero : Obligations.RequestsWithoutEffectAnswerZero :=
  fun _ _ _ _ => ⟨decodeHreq_of_hreqOp, decodeHreq_of_hreqOp, decodeHreq_of_hreqOp, decodeHreq_of_hreqOp,
    decodeHreq_of_hreqOp, rfl, rfl, rfl, rfl, rfl⟩

/-- Settles O48: the guard of the strobe is what the statement assumes. -/
theorem notifyHumStrobes : Obligations.NotifyHumStrobes :=
  fun _ _ hp hok => if_pos ⟨hp, hok⟩

end Sys2Proof.Proofs

/-! PROOFS. The statements about the Actuator Controller (43_actuator.md): its rules, the merge of SLOT, and the length
and the number of the pulses along a run. -/

namespace Sys2Proof.Machine

/-! ### The controller's rules (R202, R203) -/

/-- R202: IDLE with a pending command. -/
theorem actStep_of_pending {s : State} (hs : s.actState = .idle) (hv : s.slot.valid = true) :
    s.actStep = s.startPulse := by
  simp [State.actStep, hs, hv]

/-- R202: IDLE with no pending command. -/
theorem actStep_of_empty {s : State} (hs : s.actState = .idle) (hv : s.slot.valid = false) :
    s.actStep = s.stayIdle := by
  simp [State.actStep, hs, hv]

/-- R203: the last cycle of the hold. -/
theorem actStep_of_last {s : State} (hs : s.actState = .driving) (hc : s.actCnt = 1) : s.actStep = s.endPulse := by
  simp [State.actStep, hs, hc]

/-- R203: any other cycle of the hold. -/
theorem actStep_of_not_last {s : State} (hs : s.actState = .driving) (hc : s.actCnt ≠ 1) :
    s.actStep = s.holdPulse := by
  simp [State.actStep, hs, hc]

theorem startsPulse_iff {s : State} (hr : s.inputs.rst = false) :
    s.startsPulse = true ↔ s.actState = .idle ∧ s.slot.valid = true := by
  simp [State.startsPulse, hr]

theorem startsPulse_of_driving {s : State} (hs : s.actState = .driving) : s.startsPulse = false := by
  simp [State.startsPulse, hs]

/-- R202, R203: the controller consumes SLOT in the cycles that start a sequence, and in no other. -/
theorem actStep_consume {s : State} (hr : s.inputs.rst = false) : s.actStep.signals.consume = s.startsPulse := by
  cases hs : s.actState with
  | idle =>
    cases hv : s.slot.valid
    · simp [actStep_of_empty hs hv, State.startsPulse, hv]
    · simp [actStep_of_pending hs hv, State.startsPulse, hs, hv, hr]
  | driving =>
    rw [startsPulse_of_driving hs]
    by_cases hc : s.actCnt = 1
    · simp [actStep_of_last hs hc]
    · simp [actStep_of_not_last hs hc]

/-! ### The controller's part of a cycle (R201, R205) -/

/-- R174: the command a CMD_WRITE on the pins asks for. -/
def State.requested (s : State) : Option Command :=
  if hreqOp s.inputs.hreq = 0b010#3 then some (decodeCmd (hreqData s.inputs.hreq)) else none

theorem requested_of_write {s : State} (h : hreqOp s.inputs.hreq = 0b010#3) :
    s.requested = some (decodeCmd (hreqData s.inputs.hreq)) := if_pos h

theorem requested_of_not_write {s : State} (h : hreqOp s.inputs.hreq ≠ 0b010#3) : s.requested = none := if_neg h

/-- R174: the host request of a cycle sets `SLOT_set` to the command it asks for. -/
theorem hostStep_slotSet {s u : State} (hu : hostStep s.beginCycle = .next u) : u.signals.slotSet = s.requested := by
  by_cases hop : hreqOp s.inputs.hreq = 0b010#3
  · rw [hostStep_of_cmdWrite (s := s.beginCycle) hop, Host.Outcome.next.injEq] at hu
    rw [← hu, requested_of_write hop]
    rfl
  · obtain ⟨w, hw⟩ := hostStep_of_not_cmdWrite (s := s.beginCycle) hop
    rw [hw, Host.Outcome.next.injEq] at hu
    rw [← hu, requested_of_not_write hop]
    rfl

section Cycle

variable {s t : State} (hr : s.inputs.rst = false) (ht : step s = .next t)

include hr ht

/-- R39: a cycle without reset, from the state its host request leaves. -/
theorem exists_hostStep_of_step : ∃ u, hostStep s.beginCycle = .next u ∧ u.acqNext.actStep.endCycle = t := by
  obtain ⟨u, hu⟩ := hostStep_complete s.beginCycle
  rw [step_of_hostStep hr hu, Host.Outcome.next.injEq] at ht
  exact ⟨u, hu, ht⟩

/-- R39: the controller's elements after a cycle are those its own rule leaves. -/
theorem step_next_samePulse : SamePulse s.actStep t := by
  obtain ⟨u, hu, rfl⟩ := exists_hostStep_of_step hr ht
  exact (((beginCycle_samePulse s).actStep rfl).1.trans (step_samePulse hu).1).trans (endCycle_samePulse _)

/-- R38: `act_out` is OUT of the start of the cycle. -/
theorem step_next_actOut : t.outputs.actOut = s.out := by
  obtain ⟨u, hu, rfl⟩ := exists_hostStep_of_step hr ht
  exact (step_hostPart hu).actOut

/-- R205: SLOT after a cycle merges the request of the pins with the start of a sequence. -/
theorem step_next_slot : t.slot = slotNext s.slot s.requested s.startsPulse := by
  obtain ⟨u, hu, rfl⟩ := exists_hostStep_of_step hr ht
  have hhost := step_hostPart hu
  have hconsume := ((beginCycle_samePulse s).actStep rfl).2
  rw [State.endCycle_slot, hhost.slot, hhost.slotSet, hostStep_slotSet hu, (step_samePulse hu).2, hconsume,
    actStep_consume hr, State.beginCycle_slot]

theorem step_of_pending (hs : s.actState = .idle) (hv : s.slot.valid = true) : SamePulse s.startPulse t :=
  actStep_of_pending hs hv ▸ step_next_samePulse hr ht

theorem step_of_empty (hs : s.actState = .idle) (hv : s.slot.valid = false) : SamePulse s.stayIdle t :=
  actStep_of_empty hs hv ▸ step_next_samePulse hr ht

theorem step_of_last (hs : s.actState = .driving) (hc : s.actCnt = 1) : SamePulse s.endPulse t :=
  actStep_of_last hs hc ▸ step_next_samePulse hr ht

theorem step_of_not_last (hs : s.actState = .driving) (hc : s.actCnt ≠ 1) : SamePulse s.holdPulse t :=
  actStep_of_not_last hs hc ▸ step_next_samePulse hr ht

/-- R203: a cycle in DRIVING does not consume SLOT. -/
theorem step_slot_of_driving (hs : s.actState = .driving) (hop : hreqOp s.inputs.hreq ≠ 0b010#3) :
    t.slot = s.slot := by
  rw [step_next_slot hr ht, requested_of_not_write hop, startsPulse_of_driving hs, slotNext_keep]

end Cycle

/-! ### A pulse along a run (R206, R207) -/

theorem Runs.snoc {s u t : State} {n : Nat} (h : Runs s n u) (ht : step u = .next t) : Runs s (n + 1) t := by
  induction h with
  | done => exact .cycle ht (.done t)
  | cycle hs _ ih => exact .cycle hs (ih ht)

theorem noReset_of_le {s : State} {m n : Nat} (hr : s.noReset n) (h : m ≤ n) : s.noReset m :=
  fun j hj => hr j (Nat.lt_of_lt_of_le hj h)

theorem inputs_rst_of_noReset {s : State} {n : Nat} (hr : s.noReset (n + 1)) : s.inputs.rst = false :=
  hr 0 (Nat.succ_pos n)

theorem noReset_of_step {s t : State} {n : Nat} (hr : s.noReset (n + 1)) (ht : step s = .next t) : t.noReset n :=
  fun j hj => (step_inputAt ht j).symm ▸ hr (j + 1) (Nat.succ_lt_succ hj)

/-- R203: `k` cycles into a hold that has more than `k` to run, only the count has changed. -/
theorem runs_hold {s u : State} {k : Nat} (h : Runs s k u) (hs : s.actState = .driving) (hk : k < s.actCnt)
    (hr : s.noReset k) : SamePulse { s with actCnt := s.actCnt - k } u := by
  induction h with
  | done => exact ⟨rfl, rfl, rfl, rfl⟩
  | @cycle s t u k ht _ ih =>
    have hhold := step_of_not_last (inputs_rst_of_noReset hr) ht hs (by omega)
    have hcnt : t.actCnt = s.actCnt - 1 := hhold.actCnt.trans (countDown_of_pos _ (by omega))
    have hrest := ih (hhold.actState.trans hs) (by omega) (noReset_of_step hr ht)
    refine ⟨hrest.actState.trans hhold.actState, ?_, hrest.actCmd.trans hhold.actCmd, hrest.out.trans hhold.out⟩
    have hu : u.actCnt = t.actCnt - k := hrest.actCnt
    change u.actCnt = s.actCnt - (k + 1)
    omega

/-- R203: a hold of `n` cycles ends with the `n`th. -/
theorem exists_runs_endPulse {s : State} (hs : s.actState = .driving) (hpos : 1 ≤ s.actCnt)
    (hr : s.noReset s.actCnt) : ∃ u, Runs s s.actCnt u ∧ SamePulse s.endPulse u := by
  obtain ⟨n, hn⟩ : ∃ n, s.actCnt = n + 1 := ⟨s.actCnt - 1, by omega⟩
  obtain ⟨v, hv⟩ := exists_runs n s
  obtain ⟨u, hu⟩ := step_complete v
  have hhold := runs_hold hv hs (by omega) (noReset_of_le hr (by omega))
  have hlast : v.actCnt = 1 := hhold.actCnt.trans (Nat.sub_eq_of_eq_add (by omega))
  have hend := step_of_last (runs_inputs_rst hr (by omega) hv) hu (hhold.actState.trans hs) hlast
  exact ⟨u, hn ▸ hv.snoc hu, hend.actState, hend.actCnt, hend.actCmd.trans hhold.actCmd, hend.out⟩

/-- R203, R205: SLOT stays through a hold with no CMD_WRITE, its last cycle included. -/
theorem runs_slot_of_driving {s u : State} {k : Nat} (h : Runs s k u) (hs : s.actState = .driving)
    (hk : k ≤ s.actCnt) (hr : s.noReset k) (hno : ∀ j < k, hreqOp (s.inputAt j).hreq ≠ 0b010#3) : u.slot = s.slot := by
  refine runs_induction (P := fun v => v.slot = s.slot) h rfl fun j hj v t hv ht hkept => ?_
  have hhold := runs_hold hv hs (by omega) (noReset_of_le hr (by omega))
  have hop : hreqOp v.inputs.hreq ≠ 0b010#3 := by
    rw [State.inputs, runs_inputAt hv]
    exact hno j hj
  exact (step_slot_of_driving (runs_inputs_rst hr hj hv) ht (hhold.actState.trans hs) hop).trans hkept

/-- R206: the cycle that starts a pulse, with what is needed to follow the hold it leaves. -/
theorem exists_step_of_pending {s : State} (hs : s.actState = .idle) (hv : s.slot.valid = true)
    (hr : s.noReset (dur s.slot.cmd + 1)) :
    ∃ t, step s = .next t ∧ SamePulse s.startPulse t ∧ t.noReset (dur s.slot.cmd) := by
  obtain ⟨t, ht⟩ := step_complete s
  exact ⟨t, ht, step_of_pending (inputs_rst_of_noReset hr) ht hs hv, noReset_of_step hr ht⟩

/-- R206: the line is low in the `dur` cycles after the start. -/
theorem exists_runs_low {s : State} (hs : s.actState = .idle) (hv : s.slot.valid = true)
    (hr : s.noReset (dur s.slot.cmd + 1)) {k : Nat} (h1 : 1 ≤ k) (hk : k ≤ dur s.slot.cmd) :
    ∃ u, Runs s k u ∧ u.out = false ∧ u.actState = .driving := by
  obtain ⟨t, ht, hstart, hrt⟩ := exists_step_of_pending hs hv hr
  obtain ⟨j, rfl⟩ : ∃ j, k = j + 1 := ⟨k - 1, by omega⟩
  obtain ⟨u, hu⟩ := exists_runs j t
  have hhold := runs_hold hu hstart.actState (hstart.actCnt.symm ▸ hk) (noReset_of_le hrt (by omega))
  exact ⟨u, .cycle ht hu, hhold.out.trans hstart.out, hhold.actState.trans hstart.actState⟩

/-- R206: and idle in the cycle after them. -/
theorem exists_runs_high {s : State} (hs : s.actState = .idle) (hv : s.slot.valid = true)
    (hr : s.noReset (dur s.slot.cmd + 1)) :
    ∃ u, Runs s (dur s.slot.cmd + 1) u ∧ u.out = true ∧ u.actState = .idle := by
  obtain ⟨t, ht, hstart, hrt⟩ := exists_step_of_pending hs hv hr
  have hcnt : t.actCnt = dur s.slot.cmd := hstart.actCnt
  rw [← hcnt] at hrt ⊢
  obtain ⟨u, hu, hend⟩ := exists_runs_endPulse hstart.actState (hcnt ▸ dur_pos _) hrt
  exact ⟨u, .cycle ht hu, hend.out, hend.actState⟩

/-! ### Counting pulses and writes (R208) -/

theorem countCycles_succ (p : State → Bool) (n : Nat) {s t : State} (ht : step s = .next t) :
    countCycles p (n + 1) s = (if p s then 1 else 0) + countCycles p n t := by
  rw [countCycles, ht]

/-- R205, R208: a cycle starts a pulse at the cost of the pending command, and only a CMD_WRITE makes one pending. -/
theorem step_pulse_budget {s t : State} (ht : step s = .next t) :
    (if s.startsPulse then 1 else 0) + (if t.slot.valid then 1 else 0) ≤
      (if s.writesCommand then 1 else 0) + (if s.slot.valid then 1 else 0) := by
  cases hr : s.inputs.rst with
  | true =>
    rw [step_of_rst hr, Host.Outcome.next.injEq] at ht
    simp [← ht, State.startsPulse, hr, State.reset]
  | false =>
    have hslot := step_next_slot hr ht
    have hpending : s.startsPulse = true → s.slot.valid = true := fun h => ((startsPulse_iff hr).mp h).2
    by_cases hop : hreqOp s.inputs.hreq = 0b010#3
    · have hwrites : s.writesCommand = true := by simp [State.writesCommand, hr, hop]
      rw [requested_of_write hop, slotNext_write] at hslot
      cases hp : s.startsPulse
      · simp [hslot, hwrites]
      · simp [hslot, hwrites, hpending hp]
    · rw [requested_of_not_write hop] at hslot
      cases hp : s.startsPulse
      · simp [hslot, hp]
      · simp [hslot, hp, hpending hp]

end Sys2Proof.Machine

namespace Sys2Proof.Proofs

open Sys2Proof.Machine

/-- Settles O50: IDLE's two rules, with and without a pending command. -/
theorem idleCycleStartsThePulse : Obligations.IdleCycleStartsThePulse := by
  intro s hr hs
  obtain ⟨t, ht⟩ := step_complete s
  refine ⟨t, ht, step_next_actOut hr ht, fun hv => ?_, fun hv => ?_⟩
  · have hstart := step_of_pending hr ht hs hv
    refine ⟨hstart.actState, hstart.out, hstart.actCmd, hstart.actCnt.trans ?_⟩
    rw [State.startPulse_actCnt]
    cases s.slot.cmd <;> rfl
  · have hstay := step_of_empty hr ht hs hv
    exact ⟨hstay.actState.trans hs, hstay.out, hstay.actCmd, hstay.actCnt⟩

/-- Settles O51: DRIVING's two rules, in the last cycle of the hold and before it. -/
theorem drivingCycleHoldsOrEnds : Obligations.DrivingCycleHoldsOrEnds := by
  intro s hr hs
  obtain ⟨t, ht⟩ := step_complete s
  have hslot := step_slot_of_driving hr ht hs
  by_cases hc : s.actCnt = 1
  · have hend := step_of_last hr ht hs hc
    exact ⟨t, ht, step_next_actOut hr ht, hend.actCmd, fun _ => ⟨hend.actState, hend.out, hend.actCnt⟩,
      fun hne => absurd hc hne, fun h2 => by omega, hslot⟩
  · have hhold := step_of_not_last hr ht hs hc
    exact ⟨t, ht, step_next_actOut hr ht, hhold.actCmd, fun h1 => absurd h1 hc,
      fun _ => ⟨hhold.actState.trans hs, hhold.out⟩,
      fun h2 => hhold.actCnt.trans (countDown_of_pos _ (by omega)), hslot⟩

/-- Settles O52: the merge of the request with the start of a sequence, by the request and then by the controller. -/
theorem slotMerge : Obligations.SlotMerge := by
  intro s hr
  obtain ⟨t, ht⟩ := step_complete s
  refine ⟨t, ht, ?_, fun _ hs hv => ?_⟩
  · rw [step_next_slot hr ht]
    by_cases hop : hreqOp s.inputs.hreq = 0b010#3
    · rw [if_pos hop, requested_of_write hop, slotNext_write, decodeCmd]
    · rw [if_neg hop, requested_of_not_write hop]
      by_cases hp : s.actState = .idle ∧ s.slot.valid = true
      · rw [if_pos hp, (startsPulse_iff hr).mpr hp, slotNext_consume]
      · rw [if_neg hp, Bool.eq_false_iff.mpr (mt (startsPulse_iff hr).mp hp), slotNext_keep]
  · have hstart := step_of_pending hr ht hs hv
    exact ⟨hstart.actState, hstart.actCmd⟩

/-- Settles O53: a written command is pending one cycle later, and from there the first half applies. -/
theorem pulseTiming : Obligations.PulseTiming := by
  refine ⟨fun s hs hv hr => ⟨fun k h1 hk => exists_runs_low hs hv hr h1 hk, exists_runs_high hs hv hr⟩, ?_⟩
  rintro s c hs hv hop rfl hr
  obtain ⟨t, ht⟩ := step_complete s
  have hr0 := inputs_rst_of_noReset hr
  have hstay := step_of_empty hr0 ht hs hv
  have hslot : t.slot = ⟨true, decodeCmd (hreqData s.inputs.hreq)⟩ := by
    rw [step_next_slot hr0 ht, requested_of_write hop, slotNext_write]
  have hst : t.actState = .idle := hstay.actState.trans hs
  have hvt : t.slot.valid = true := by rw [hslot]
  have hrt := noReset_of_step hr ht
  have hcmd : decodeCmd (hreqData s.inputs.hreq) = t.slot.cmd := by rw [hslot]
  rw [hcmd] at hrt ⊢
  refine ⟨⟨t, .cycle ht (.done t), hstay.out⟩, fun k h2 hk => ?_, ?_⟩
  · obtain ⟨j, rfl⟩ : ∃ j, k = j + 1 := ⟨k - 1, by omega⟩
    obtain ⟨u, hu, hlow, -⟩ := exists_runs_low hst hvt hrt (k := j) (by omega) (by omega)
    exact ⟨u, .cycle ht hu, hlow⟩
  · obtain ⟨u, hu, hhigh, -⟩ := exists_runs_high hst hvt hrt
    exact ⟨u, .cycle ht hu, hhigh⟩

/-- Settles O54: the hold, its end, and the start of the command still pending then. -/
theorem pendingCommandWaitsForThePulse : Obligations.PendingCommandWaitsForThePulse := by
  rintro s n hs rfl hpos hv hr hno
  have hrn := noReset_of_le hr (Nat.le_succ _)
  obtain ⟨u, hu, hend⟩ := exists_runs_endPulse hs hpos hrn
  have hslot := runs_slot_of_driving hu hs (Nat.le_refl _) hrn hno
  obtain ⟨v, hstep⟩ := step_complete u
  have hstart := step_of_pending (runs_inputs_rst hr (Nat.lt_succ_self _) hu) hstep hend.actState (hslot ▸ hv)
  refine ⟨fun k hk => ?_, ⟨u, hu, hend.actState, hend.out, hslot⟩, v, hu.snoc hstep, hstart.actState, hstart.out,
    hslot ▸ hstart.actCmd, hslot ▸ hstart.actCnt⟩
  obtain ⟨w, hw⟩ := exists_runs k s
  have hrk := noReset_of_le hrn hk.le
  have hhold := runs_hold hw hs hk hrk
  exact ⟨w, hw, hhold.actState.trans hs, hhold.actCmd, hhold.out,
    runs_slot_of_driving hw hs hk.le hrk fun j hj => hno j (hj.trans hk)⟩

/-- Settles O55: by induction on the length of the run, every cycle within its budget. -/
theorem pulsesAreAtMostTheCommandWrites : Obligations.PulsesAreAtMostTheCommandWrites := by
  intro s n
  induction n generalizing s with
  | zero => exact Nat.zero_le _
  | succ n ih =>
    obtain ⟨t, ht⟩ := step_complete s
    have hrest := ih t
    have hcycle := step_pulse_budget ht
    rw [countCycles_succ _ _ ht, countCycles_succ _ _ ht]
    omega

end Sys2Proof.Proofs

/-! PROOFS. The statements about the Acquisition Loop (44_acquisition_loop.md): its phase rules, the pins each of them
reads, the cycles in which it only waits, and an iteration from START to START. -/

namespace Sys2Proof.Machine

/-! ### The operations of the sequencer in their phases (R231, R233, R236) -/

/-- R231, R237: the readiness check ends the iteration on a bus that is not ready. -/
theorem exec_busReadyCheck_of_notReady {s : State} (hp : s.acqPhase = .start) (hb : s.inputs.busReady = false) :
    exec .busReadyCheck s = .next (s.endIter .busNotReady) := if_pos ⟨hp, hb⟩

theorem exec_trigWrite_of_ready {s : State} (hp : s.acqPhase = .start) (hb : s.inputs.busReady = true) :
    exec .trigWrite s = .next ((s.request (.write Config.sensorAddr [0x2C#8, 0x06#8])).goto .wr) := if_pos ⟨hp, hb⟩

theorem exec_settleWait_of_last {s : State} (hp : s.acqPhase = .settle) (hc : s.acqCnt = 1) :
    exec .settleWait s = .next (((s.request (.read Config.sensorAddr 6)).loadAcqCnt 0).goto .rd) :=
  (if_pos hp).trans (if_pos hc)

theorem exec_settleWait_of_not_last {s : State} (hp : s.acqPhase = .settle) (hc : s.acqCnt ≠ 1) :
    exec .settleWait s = .next s.countAcq := (if_pos hp).trans (if_neg hc)

theorem exec_periodWait_of_last {s : State} (hp : s.acqPhase = .sleep) (hc : s.acqCnt = 1) :
    exec .periodWait s = .next ((s.loadAcqCnt 0).goto .start) := (if_pos hp).trans (if_pos hc)

theorem exec_periodWait_of_not_last {s : State} (hp : s.acqPhase = .sleep) (hc : s.acqCnt ≠ 1) :
    exec .periodWait s = .next s.countAcq := (if_pos hp).trans (if_neg hc)

/-- R233, R236: a count of at least 1 goes down by one, and nothing else changes. -/
theorem countAcq_of_pos {s : State} (hc : 1 ≤ s.acqCnt) : s.countAcq = { s with acqCnt := s.acqCnt - 1 } := by
  rw [State.countAcq, countDown_of_pos _ hc]

/-! ### The loop's rule, case by case (R231 to R236) -/

section Rules

variable {s : State}

theorem acqNext_of_start_ready (hp : s.acqPhase = .start) (hb : s.inputs.busReady = true) :
    s.acqNext = (s.request (.write Config.sensorAddr [0x2C#8, 0x06#8])).goto .wr := by
  rw [State.acqNext, hp]
  exact if_pos hb

theorem acqNext_of_start_notReady (hp : s.acqPhase = .start) (hb : s.inputs.busReady = false) :
    s.acqNext = s.endIter .busNotReady := by
  rw [State.acqNext, hp]
  exact if_neg (by simp [hb])

theorem acqNext_of_wrDone (hp : s.acqPhase = .wr) (hrsp : s.inputs.busRsp = .wrDone true) :
    s.acqNext = (s.loadAcqCnt settleCycles).goto .settle := by
  simp [State.acqNext, hp, State.awaitWrite, hrsp]

theorem acqNext_of_wrFailed (hp : s.acqPhase = .wr) (hrsp : s.inputs.busRsp = .wrDone false) :
    s.acqNext = s.endIter .writeFailed := by
  simp [State.acqNext, hp, State.awaitWrite, hrsp]

theorem acqNext_of_settle_last (hp : s.acqPhase = .settle) (hc : s.acqCnt = 1) :
    s.acqNext = ((s.request (.read Config.sensorAddr 6)).loadAcqCnt 0).goto .rd := by
  rw [State.acqNext, hp]
  exact if_pos hc

theorem acqNext_of_rdDone {f : Frame} (hp : s.acqPhase = .rd) (hrsp : s.inputs.busRsp = .rdDone true f) :
    s.acqNext = (s.latchFrame f).goto .eval := by
  simp [State.acqNext, hp, State.readNext, hrsp]

theorem acqNext_of_rdFailed {f : Frame} (hp : s.acqPhase = .rd) (hrsp : s.inputs.busRsp = .rdDone false f) :
    s.acqNext = s.endIter .readFailed := by
  simp [State.acqNext, hp, State.readNext, hrsp]

theorem acqNext_of_eval_invalid (hp : s.acqPhase = .eval) (hf : frameValid s.frame = false) :
    s.acqNext = s.rejectFrame := by
  rw [State.acqNext, hp]
  exact if_neg (by simp [hf])

theorem acqNext_of_sleep_last (hp : s.acqPhase = .sleep) (hc : s.acqCnt = 1) :
    s.acqNext = (s.loadAcqCnt 0).goto .start := by
  rw [State.acqNext, hp]
  exact if_pos hc

/-- R233, R236: SETTLE and SLEEP count alike until their last cycle. -/
theorem acqNext_of_counting (hp : s.acqPhase = .settle ∨ s.acqPhase = .sleep) (hc : s.acqCnt ≠ 1) :
    s.acqNext = s.countAcq := by
  rcases hp with hp | hp <;>
  · rw [State.acqNext, hp]
    exact if_neg hc

theorem accepts_of_wr {r : BusRsp} (hp : s.acqPhase = .wr) (hr : ∀ ok, r ≠ .wrDone ok) : s.accepts r = false := by
  cases r with
  | none => rfl
  | wrDone ok => exact absurd rfl (hr ok)
  | rdDone ok f => simp [State.accepts, hp]

theorem accepts_of_rd {r : BusRsp} (hp : s.acqPhase = .rd) (hr : ∀ ok f, r ≠ .rdDone ok f) : s.accepts r = false := by
  cases r with
  | none => rfl
  | wrDone ok => simp [State.accepts, hp]
  | rdDone ok f => exact absurd rfl (hr ok f)

theorem outstanding_iff : s.outstanding = true ↔ s.acqPhase = .wr ∨ s.acqPhase = .rd := by
  simp [State.outstanding]

theorem acqNext_of_unanswered (ho : s.outstanding = true) (h : s.accepts s.inputs.busRsp = false) : s.acqNext = s := by
  rcases outstanding_iff.mp ho with hp | hp
  · simp [State.acqNext, hp, awaitWrite_of_not_accepts hp h]
  · simp [State.acqNext, hp, readNext_of_not_accepts hp h]

/-- R237: a DIAG event of the loop's own starts the gap. -/
theorem acqNext_diag_cases (s : State) :
    s.acqNext.outputs.diag = s.outputs.diag ∨ (s.acqNext.acqPhase = .sleep ∧ s.acqNext.acqCnt = periodCycles) := by
  unfold State.acqNext
  split
  · split
    · exact .inl rfl
    · exact .inr ⟨rfl, rfl⟩
  · unfold State.awaitWrite
    split
    · exact .inl rfl
    · exact .inr ⟨rfl, rfl⟩
    · exact .inl rfl
    · exact .inl rfl
  · split <;> exact .inl rfl
  · unfold State.readNext
    split
    · exact .inl rfl
    · exact .inr ⟨rfl, rfl⟩
    · exact .inl rfl
    · exact .inl rfl
  · split <;> exact .inr ⟨rfl, rfl⟩
  · split <;> exact .inl rfl

end Rules

/-! ### The pins a phase does not read (R231) -/

/-- R231: only START samples `bus_ready`. -/
theorem acqNext_drive_of_not_start {s : State} {i : Inputs} (hp : s.acqPhase ≠ .start)
    (hrsp : i.busRsp = s.inputs.busRsp) : (s.drive i).acqNext = s.acqNext.drive i := by
  unfold State.acqNext
  rw [State.drive_acqPhase, State.drive_acqCnt, State.drive_frame]
  cases hs : s.acqPhase with
  | start => exact absurd hs hp
  | wr =>
    dsimp only [State.awaitWrite]
    rw [drive_inputs, hrsp]
    split <;> rfl
  | rd =>
    dsimp only [State.readNext]
    rw [drive_inputs, hrsp]
    split <;> rfl
  | settle | eval | sleep =>
    dsimp only
    split <;> rfl

/-- R231: START does not read `bus_rsp`. -/
theorem acqNext_drive_of_start {s : State} {i : Inputs} (hp : s.acqPhase = .start)
    (hready : i.busReady = s.inputs.busReady) : (s.drive i).acqNext = s.acqNext.drive i := by
  unfold State.acqNext
  rw [State.drive_acqPhase, drive_inputs, hready, hp]
  dsimp only
  split <;> rfl

/-- R39: a change of bus pins that the loop does not read is none for the cycle. -/
theorem step_drive_of_acqNext_drive {s : State} {i : Inputs} (hrst : i.rst = s.inputs.rst)
    (hreq : i.hreq = s.inputs.hreq)
    (hloop : ∀ u : State, u.acqPhase = s.acqPhase → u.inputs = s.inputs → (u.drive i).acqNext = u.acqNext.drive i) :
    step (s.drive i) = step s := by
  cases hr : s.inputs.rst with
  | true =>
    rw [step_of_rst hr, step_of_rst (s := s.drive i) (hrst.trans hr)]
    rfl
  | false =>
    obtain ⟨u, hu⟩ := hostStep_complete s.beginCycle
    have hhost := hostStep_sameOutsideHost hu
    have hdrive : hostStep (s.drive i).beginCycle = .next (u.drive i) := hostStep_drive (s := s.beginCycle) hreq hu
    rw [step_of_hostStep hr hu, step_of_hostStep (s := s.drive i) (hrst.trans hr) hdrive,
      hloop u hhost.acqPhase hhost.inputs, actStep_drive]
    rfl

/-! ### Cycles in which the loop only waits (R233, R236, R242) -/

/-- After `n` cycles the loop stands where it stood in `s`, its counter aside, and has emitted nothing. -/
structure LoopWaited (n : Nat) (s u : State) : Prop where
  acqPhase : u.acqPhase = s.acqPhase
  frame : u.frame = s.frame
  measT : u.measT = s.measT
  measRH : u.measRH = s.measRH
  tv : u.tv = s.tv
  lastResult : u.lastResult = s.lastResult
  silent : 1 ≤ n → u.outputs.notify = none ∧ u.outputs.diag = none ∧ u.outputs.busReq = none

theorem LoopWaited.refl (s : State) : LoopWaited 0 s s := ⟨rfl, rfl, rfl, rfl, rfl, rfl, nofun⟩

theorem LoopWaited.snoc {n : Nat} {s u v : State} (h : LoopWaited n s u) (k : LoopWaited 1 u v) :
    LoopWaited (n + 1) s v where
  acqPhase := k.acqPhase.trans h.acqPhase
  frame := k.frame.trans h.frame
  measT := k.measT.trans h.measT
  measRH := k.measRH.trans h.measRH
  tv := k.tv.trans h.tv
  lastResult := k.lastResult.trans h.lastResult
  silent := fun _ => k.silent (Nat.le_refl 1)

/-- A cycle whose loop does no more than load its counter is a cycle of waiting. -/
theorem SameLoop.loopWaited {s t : State} {c : Nat} (h : SameLoop (s.beginCycle.loadAcqCnt c) t) :
    LoopWaited 1 s t :=
  ⟨h.acqPhase, h.frame, h.measT, h.measRH, h.tv, h.lastResult, fun _ => ⟨h.notify, h.diag, h.busReq⟩⟩

/-- R233, R236: a cycle of SETTLE or SLEEP with a further one to run. -/
theorem step_of_counting {s t : State} (hr : s.inputs.rst = false) (ht : step s = .next t)
    (hp : s.acqPhase = .settle ∨ s.acqPhase = .sleep) (hc : 1 < s.acqCnt) :
    LoopWaited 1 s t ∧ t.acqCnt = s.acqCnt - 1 := by
  have hloop := step_next_sameLoop hr ht
  rw [acqNext_of_counting (s := s.beginCycle) hp hc.ne'] at hloop
  exact ⟨hloop.loopWaited, hloop.acqCnt.trans (countDown_of_pos _ hc.le)⟩

/-- R242: a cycle of WR or RD without the awaited response. -/
theorem step_of_unanswered {s t : State} (hr : s.inputs.rst = false) (ht : step s = .next t)
    (ho : s.outstanding = true) (h : s.accepts s.inputs.busRsp = false) : LoopWaited 1 s t := by
  have hloop := step_next_sameLoop hr ht
  rw [acqNext_of_unanswered (s := s.beginCycle) ho h] at hloop
  exact SameLoop.loopWaited (c := s.acqCnt) hloop

/-- `runs_induction` for what is said of the number of cycles run. -/
theorem runs_induction_length {P : Nat → State → Prop} {s u : State} {n : Nat} (h : Runs s n u) (hs : P 0 s)
    (hstep : ∀ k < n, ∀ v t, Runs s k v → step v = .next t → P k v → P (k + 1) t) : P n u := by
  induction h generalizing P with
  | done => exact hs
  | cycle ht _ ih =>
    refine ih (P := fun k => P (k + 1)) (hstep 0 (Nat.succ_pos _) _ _ (.done _) ht hs) fun k hk v t hv => ?_
    exact hstep (k + 1) (Nat.succ_lt_succ hk) v t (.cycle ht hv)

/-- R233, R236: `k` cycles into SETTLE or SLEEP with more than `k` to run. -/
theorem runs_of_counting {s u : State} {k : Nat} (h : Runs s k u) (hp : s.acqPhase = .settle ∨ s.acqPhase = .sleep)
    (hk : k < s.acqCnt) (hr : s.noReset k) : LoopWaited k s u ∧ u.acqCnt = s.acqCnt - k := by
  refine runs_induction_length (P := fun j v => LoopWaited j s v ∧ v.acqCnt = s.acqCnt - j) h
    ⟨.refl s, rfl⟩ ?_
  rintro j hj v t hv ht ⟨hwaited, hcnt⟩
  obtain ⟨hcycle, hnext⟩ := step_of_counting (runs_inputs_rst hr hj hv) ht (hwaited.acqPhase ▸ hp) (by omega)
  exact ⟨hwaited.snoc hcycle, by omega⟩

/-- R242: WR and RD last for as long as the awaited response does not come. -/
theorem runs_of_unanswered {s u : State} {n : Nat} (h : Runs s n u) (ho : s.outstanding = true) (hr : s.noReset n)
    (hacc : ∀ j < n, s.accepts (s.inputAt j).busRsp = false) : LoopWaited n s u := by
  refine runs_induction_length (P := fun j v => LoopWaited j s v) h (.refl s) fun j hj v t hv ht hwaited => ?_
  have hpins : v.inputs = s.inputAt j := runs_inputAt hv 0
  refine hwaited.snoc (step_of_unanswered (runs_inputs_rst hr hj hv) ht ?_ ?_)
  · rw [State.outstanding, hwaited.acqPhase]
    exact ho
  · rw [hpins, ← hacc j hj]
    unfold State.accepts
    rw [hwaited.acqPhase]

/-! ### Stretches of an iteration (R238) -/

theorem Runs.trans {s u v : State} {m n : Nat} (h : Runs s m u) (k : Runs u n v) : Runs s (m + n) v := by
  induction h with
  | done => exact (Nat.zero_add n).symm ▸ k
  | cycle ht _ ih => exact Nat.succ_add _ n ▸ .cycle ht (ih k)

theorem noReset_of_runs {s u : State} {m n : Nat} (h : Runs s m u) (hr : s.noReset (m + n)) : u.noReset n :=
  fun j hj => (runs_inputAt h j).symm ▸ hr (m + j) (Nat.add_lt_add_left hj m)

/-- `n` cycles lead from `s` to `t`, and none of them is a START cycle. -/
structure RunsBusy (s : State) (n : Nat) (t : State) : Prop where
  runs : Runs s n t
  busy : ∀ k < n, ∃ u, Runs s k u ∧ u.acqPhase ≠ .start

theorem RunsBusy.trans {s t v : State} {m n : Nat} (h : RunsBusy s m t) (k : RunsBusy t n v) :
    RunsBusy s (m + n) v where
  runs := h.runs.trans k.runs
  busy := fun j hj => by
    rcases Nat.lt_or_ge j m with hlt | hge
    · exact h.busy j hlt
    · obtain ⟨i, rfl⟩ := Nat.exists_eq_add_of_le hge
      obtain ⟨u, hu, hp⟩ := k.busy i (by omega)
      exact ⟨u, h.runs.trans hu, hp⟩

/-- A stretch of one phase: `n` cycles of waiting and the cycle that ends it, in which the loop follows its rule. -/
theorem exists_runsBusy_of_waited {s : State} {n : Nat} (hp : s.acqPhase ≠ .start) (hr : s.noReset (n + 1))
    (hwait : ∀ k ≤ n, ∀ v, Runs s k v → LoopWaited k s v) :
    ∃ v t, Runs s n v ∧ LoopWaited n s v ∧ RunsBusy s (n + 1) t ∧ SameLoop v.beginCycle.acqNext t := by
  obtain ⟨v, hv⟩ := exists_runs n s
  obtain ⟨t, ht⟩ := step_complete v
  refine ⟨v, t, hv, hwait n (Nat.le_refl n) v hv, ⟨hv.snoc ht, fun k hk => ?_⟩,
    step_next_sameLoop (runs_inputs_rst hr (Nat.lt_succ_self n) hv) ht⟩
  obtain ⟨u, hu⟩ := exists_runs k s
  exact ⟨u, hu, (hwait k (by omega) u hu).acqPhase ▸ hp⟩

/-- R233, R236: SETTLE and SLEEP with `n` cycles to run last `n` cycles, the count being 1 in the last. -/
theorem exists_runsBusy_of_counting {s : State} {n : Nat} (hp : s.acqPhase = .settle ∨ s.acqPhase = .sleep)
    (hc : s.acqCnt = n) (hn : 1 ≤ n) (hr : s.noReset n) :
    ∃ v t, LoopWaited (n - 1) s v ∧ v.acqCnt = 1 ∧ RunsBusy s n t ∧ SameLoop v.beginCycle.acqNext t := by
  obtain ⟨m, rfl⟩ : ∃ m, n = m + 1 := ⟨n - 1, by omega⟩
  have hcount : ∀ k ≤ m, ∀ v, Runs s k v → LoopWaited k s v ∧ v.acqCnt = s.acqCnt - k := fun k hk v hv =>
    runs_of_counting hv hp (by omega) (noReset_of_le hr (by omega))
  have hstart : s.acqPhase ≠ .start := by rcases hp with hp | hp <;> simp [hp]
  obtain ⟨v, t, hv, hwaited, hbusy, hloop⟩ :=
    exists_runsBusy_of_waited hstart hr fun k hk v hv => (hcount k hk v hv).1
  have hcnt := (hcount m (Nat.le_refl m) v hv).2
  exact ⟨v, t, hwaited, by omega, hbusy, hloop⟩

/-- R242: WR and RD last until the cycle of the awaited response. -/
theorem exists_runsBusy_of_unanswered {s : State} {n : Nat} (ho : s.outstanding = true) (hr : s.noReset (n + 1))
    (hacc : ∀ j < n, s.accepts (s.inputAt j).busRsp = false) :
    ∃ v t, LoopWaited n s v ∧ v.inputs = s.inputAt n ∧ RunsBusy s (n + 1) t ∧ SameLoop v.beginCycle.acqNext t := by
  have hstart : s.acqPhase ≠ .start := by rcases outstanding_iff.mp ho with hp | hp <;> simp [hp]
  obtain ⟨v, t, hv, hwaited, hbusy, hloop⟩ := exists_runsBusy_of_waited hstart hr fun k hk v hv =>
    runs_of_unanswered hv ho (noReset_of_le hr (by omega)) fun j hj => hacc j (by omega)
  exact ⟨v, t, hwaited, runs_inputAt hv 0, hbusy, hloop⟩

/-- R232: from WR with WR_DONE(1) after `n` further cycles to the whole settling delay. -/
theorem exists_runsBusy_wr {s : State} {n : Nat} (hp : s.acqPhase = .wr) (hr : s.noReset (n + 1))
    (hwait : ∀ j < n, ∀ ok, (s.inputAt j).busRsp ≠ .wrDone ok) (hdone : (s.inputAt n).busRsp = .wrDone true) :
    ∃ t, RunsBusy s (n + 1) t ∧ t.acqPhase = .settle ∧ t.acqCnt = settleCycles := by
  obtain ⟨v, t, hwaited, hpins, hbusy, hloop⟩ := exists_runsBusy_of_unanswered (outstanding_iff.mpr (.inl hp)) hr
    fun j hj => accepts_of_wr hp (hwait j hj)
  rw [acqNext_of_wrDone (s := v.beginCycle) (hwaited.acqPhase.trans hp) (hpins ▸ hdone)] at hloop
  exact ⟨t, hbusy, hloop.acqPhase, hloop.acqCnt⟩

/-- R233: from SETTLE with `n` cycles to run to RD, the READ going out on the way. -/
theorem exists_runsBusy_settle {s : State} {n : Nat} (hp : s.acqPhase = .settle) (hc : s.acqCnt = n) (hn : 1 ≤ n)
    (hr : s.noReset n) :
    ∃ t, RunsBusy s n t ∧ t.acqPhase = .rd ∧ t.outputs.busReq = some (.read Config.sensorAddr 6) := by
  obtain ⟨v, t, hwaited, hlast, hbusy, hloop⟩ := exists_runsBusy_of_counting (.inl hp) hc hn hr
  rw [acqNext_of_settle_last (s := v.beginCycle) (hwaited.acqPhase.trans hp) hlast] at hloop
  exact ⟨t, hbusy, hloop.acqPhase, hloop.busReq⟩

/-- R234: from RD with RD_DONE(1, f) after `n` further cycles to EVAL with `f` latched. -/
theorem exists_runsBusy_rd {s : State} {n : Nat} {f : Frame} (hp : s.acqPhase = .rd) (hr : s.noReset (n + 1))
    (hwait : ∀ j < n, ∀ ok g, (s.inputAt j).busRsp ≠ .rdDone ok g)
    (hdone : (s.inputAt n).busRsp = .rdDone true f) :
    ∃ t, RunsBusy s (n + 1) t ∧ t.acqPhase = .eval ∧ t.frame = f := by
  obtain ⟨v, t, hwaited, hpins, hbusy, hloop⟩ := exists_runsBusy_of_unanswered (outstanding_iff.mpr (.inr hp)) hr
    fun j hj => accepts_of_rd hp (hwait j hj)
  rw [acqNext_of_rdDone (s := v.beginCycle) (hwaited.acqPhase.trans hp) (hpins ▸ hdone)] at hloop
  exact ⟨t, hbusy, hloop.acqPhase, hloop.frame⟩

/-- R235: from EVAL with a frame that passes to the whole gap. -/
theorem exists_runsBusy_eval {s : State} (h : s.succeeds) (hr : s.noReset 1) :
    ∃ t, RunsBusy s 1 t ∧ SameLoop s.beginCycle.acceptFrame t := by
  obtain ⟨hp, hf⟩ := h
  obtain ⟨t, ht⟩ := step_complete s
  have hloop := step_next_sameLoop (inputs_rst_of_noReset hr) ht
  rw [acqNext_of_succeeds (s := s.beginCycle) ⟨hp, hf⟩] at hloop
  refine ⟨t, ⟨.cycle ht (.done t), fun k hk => ⟨s, ?_, by simp [hp]⟩⟩, hloop⟩
  rw [Nat.lt_one_iff.mp hk]
  exact .done s

/-- R236: from SLEEP with `n` cycles to run to START, with nothing but the phase and the counter changed. -/
theorem exists_runsBusy_sleep {s : State} {n : Nat} (hp : s.acqPhase = .sleep) (hc : s.acqCnt = n) (hn : 1 ≤ n)
    (hr : s.noReset n) :
    ∃ t, RunsBusy s n t ∧ t.acqPhase = .start ∧ t.lastResult = s.lastResult ∧ t.tv = s.tv ∧ t.frame = s.frame := by
  obtain ⟨v, t, hwaited, hlast, hbusy, hloop⟩ := exists_runsBusy_of_counting (.inr hp) hc hn hr
  rw [acqNext_of_sleep_last (s := v.beginCycle) (hwaited.acqPhase.trans hp) hlast] at hloop
  exact ⟨t, hbusy, hloop.acqPhase, hloop.lastResult.trans hwaited.lastResult, hloop.tv.trans hwaited.tv,
    hloop.frame.trans hwaited.frame⟩

/-- R238: from WR, with WR_DONE(1) after `m` further cycles and RD_DONE(1, f) after `n` cycles of RD, to START. -/
theorem exists_runsBusy_of_answers {s : State} {m n : Nat} {f : Frame} (hp : s.acqPhase = .wr)
    (hf : frameValid f = true) (hr : s.noReset (m + 1 + settleCycles + (n + 1) + 1 + periodCycles))
    (hnoWr : ∀ j < m, ∀ ok, (s.inputAt j).busRsp ≠ .wrDone ok) (hwr : (s.inputAt m).busRsp = .wrDone true)
    (hnoRd : ∀ j < n, ∀ ok g, (s.inputAt (m + 1 + settleCycles + j)).busRsp ≠ .rdDone ok g)
    (hrd : (s.inputAt (m + 1 + settleCycles + n)).busRsp = .rdDone true f) :
    ∃ t, RunsBusy s (m + 1 + settleCycles + (n + 1) + 1 + periodCycles) t ∧ t.acqPhase = .start ∧
      t.lastResult = .ok ∧ t.tv = tvOf (frameRawRH f) ∧ t.frame = f := by
  obtain ⟨a, hsa, hpa, hca⟩ := exists_runsBusy_wr hp (noReset_of_le hr (by omega)) hnoWr hwr
  obtain ⟨b, hab, hpb, -⟩ := exists_runsBusy_settle hpa hca settleCycles_pos
    (noReset_of_runs hsa.runs (noReset_of_le hr (by omega)))
  have hsb := hsa.trans hab
  obtain ⟨c, hbc, hpc, hfc⟩ := exists_runsBusy_rd (n := n) hpb
    (noReset_of_runs hsb.runs (noReset_of_le hr (by omega)))
    (fun j hj => (runs_inputAt hsb.runs j).symm ▸ hnoRd j hj) ((runs_inputAt hsb.runs n).symm ▸ hrd)
  have hsc := hsb.trans hbc
  obtain ⟨d, hcd, hloop⟩ := exists_runsBusy_eval (s := c) ⟨hpc, hfc ▸ hf⟩
    (noReset_of_runs hsc.runs (noReset_of_le hr (by omega)))
  have hsd := hsc.trans hcd
  obtain ⟨t, hdt, hpt, hlast, htv, hframe⟩ := exists_runsBusy_sleep hloop.acqPhase hloop.acqCnt periodCycles_pos
    (noReset_of_runs hsd.runs hr)
  subst hfc
  exact ⟨t, hsd.trans hdt, hpt, hlast.trans hloop.lastResult, htv.trans hloop.tv, hframe.trans hloop.frame⟩

/-! ### The example of R235 -/

theorem frameValid_example : frameValid ⟨0x66#8, 0x66#8, 0x93#8, 0x80#8, 0x00#8, 0xA2#8⟩ = true := by decide +kernel

theorem decodeTemperature_example : decodeTemperature 0x6666#16 = 0x41C80000#32 := by
  rw [decodeTemperature_eq]
  decide +kernel

theorem decodeHumidity_example : decodeHumidity 0x8000#16 = 0x424800C8#32 := by
  rw [decodeHumidity_eq]
  decide +kernel

theorem tvOf_example : tvOf 0x8000#16 = 5000#16 := by
  rw [tvOf, decodeHumidity_example, encodeHumidity_eq _ (by decide)]
  decide +kernel

end Sys2Proof.Machine

namespace Sys2Proof.Proofs

open Sys2Proof.Machine

/-- Settles O36: the START cycle, and from WR on the stretches of the iteration one after the other. -/
theorem successfulIterationPeriod : Obligations.SuccessfulIterationPeriod := by
  intro s lw lr f hp hlw hlr hf hr hready hnoWr hwr hnoRd hrd
  obtain ⟨m, rfl⟩ := Nat.exists_eq_add_of_le' hlw
  obtain ⟨n, rfl⟩ := Nat.exists_eq_add_of_le' hlr
  obtain ⟨a, ha⟩ := step_complete s
  have hpins := step_inputAt ha
  have hstart := step_next_sameLoop (hr 0 (by omega)) ha
  rw [acqNext_of_start_ready (s := s.beginCycle) hp hready] at hstart
  have hS : settleCycles = 20 * Config.cpm := rfl
  have hP : periodCycles = 1000 * Config.cpm := rfl
  have htotal : m + 1 + (n + 1) + 20 * Config.cpm + 1000 * Config.cpm + 2 =
      m + 1 + settleCycles + (n + 1) + 1 + periodCycles + 1 := by omega
  rw [htotal] at hr ⊢
  obtain ⟨u, hu, hpu, hlast, htv, hframe⟩ := exists_runsBusy_of_answers (s := a) (n := n) hstart.acqPhase hf
    (noReset_of_step hr ha) (fun j hj => hpins j ▸ hnoWr (j + 1) (by omega) (by omega)) (hpins m ▸ hwr)
    (fun j hj => hpins _ ▸ hnoRd _ (by omega) (by omega)) (hpins _ ▸ hrd)
  refine ⟨fun k h1 hk => ?_, u, .cycle ha hu.runs, hpu, hlast, htv, hframe⟩
  obtain ⟨j, rfl⟩ := Nat.exists_eq_add_of_le' h1
  obtain ⟨v, hv, hpv⟩ := hu.busy j (by omega)
  exact ⟨v, .cycle ha hv, hpv⟩

/-- Settles O26: the count falls to 1 in SETTLE, and the cycle after that is RD. -/
theorem settlingDelayIsExact : Obligations.SettlingDelayIsExact := by
  rintro s n hp rfl hn hr
  refine ⟨fun k hk => ?_, ?_⟩
  · obtain ⟨u, hu⟩ := exists_runs k s
    obtain ⟨hwaited, hcnt⟩ := runs_of_counting hu (.inl hp) hk (noReset_of_le hr hk.le)
    refine ⟨u, hu, hwaited.acqPhase.trans hp, hcnt, fun h1 => ?_⟩
    obtain ⟨-, -, hreq⟩ := hwaited.silent h1
    exact hreq
  · obtain ⟨u, hu, hpu, hreq⟩ := exists_runsBusy_settle hp rfl hn hr
    exact ⟨u, hu.runs, hpu, hreq⟩

/-- Settles O31: a DIAG event is the loop's own, which leaves SLEEP with the whole gap to run. -/
theorem everyIterationEndIsFollowedByTheGap : Obligations.EveryIterationEndIsFollowedByTheGap := by
  intro s t hr ht hdiag hrt
  have hloop := step_next_sameLoop hr ht
  obtain ⟨hpt, hct⟩ : t.acqPhase = .sleep ∧ t.acqCnt = 1000 * Config.cpm := by
    rcases acqNext_diag_cases s.beginCycle with hnone | ⟨hp, hc⟩
    · exact absurd (hloop.diag.trans hnone) hdiag
    · exact ⟨hloop.acqPhase.trans hp, hloop.acqCnt.trans hc⟩
  refine ⟨fun k hk => ?_, ?_⟩
  · obtain ⟨u, hu⟩ := exists_runs k t
    obtain ⟨hwaited, -⟩ := runs_of_counting hu (.inr hpt) (hct ▸ hk) (noReset_of_le hrt hk.le)
    exact ⟨u, hu, hwaited.acqPhase.trans hpt⟩
  · obtain ⟨u, hu, hpu, -⟩ := exists_runsBusy_sleep hpt hct periodCycles_pos hrt
    exact ⟨u, hu.runs, hpu⟩

/-- Settles O35: every cycle of the run is one of waiting. -/
theorem unansweredRequestHangsTheLoop : Obligations.UnansweredRequestHangsTheLoop := by
  intro s n ho hr hacc
  obtain ⟨u, hu⟩ := exists_runs n s
  have hwaited := runs_of_unanswered hu ho hr hacc
  exact ⟨u, hu, hwaited.acqPhase, hwaited.tv, hwaited.measT, hwaited.measRH, hwaited.frame, hwaited.lastResult,
    hwaited.silent⟩

/-- Settles O23: the two rules of START, and the pin each of the other steps does not read. -/
theorem startCycle : Obligations.StartCycle := by
  refine ⟨fun s hr hp => ?_, fun s b hp => ?_, fun s r hp => ?_⟩
  · obtain ⟨t, ht⟩ := step_complete s
    have hloop := step_next_sameLoop hr ht
    cases hb : s.inputs.busReady with
    | true =>
      rw [acqNext_of_start_ready (s := s.beginCycle) hp hb] at hloop
      exact ⟨t, ht, hloop.frame, hloop.measT, hloop.measRH, hloop.tv, hloop.notify,
        fun _ => ⟨hloop.acqPhase, hloop.acqCnt, hloop.lastResult, hloop.busReq, hloop.diag⟩, nofun⟩
    | false =>
      rw [acqNext_of_start_notReady (s := s.beginCycle) hp hb] at hloop
      exact ⟨t, ht, hloop.frame, hloop.measT, hloop.measRH, hloop.tv, hloop.notify, nofun,
        fun _ => ⟨hloop.acqPhase, hloop.acqCnt, hloop.lastResult, hloop.busReq, hloop.diag⟩⟩
  · obtain ⟨t, ht⟩ := step_complete s
    exact ⟨t, ht, (step_drive_of_acqNext_drive (i := { s.inputs with busReady := b }) rfl rfl fun u hpu hpins =>
      acqNext_drive_of_not_start (hpu ▸ hp) (by rw [hpins])).trans ht⟩
  · obtain ⟨t, ht⟩ := step_complete s
    exact ⟨t, ht, (step_drive_of_acqNext_drive (i := { s.inputs with busRsp := r }) rfl rfl fun u hpu hpins =>
      acqNext_drive_of_start (hpu.trans hp) (by rw [hpins])).trans ht⟩

/-- Settles O24: the rule of WR, by the response. -/
theorem wrCycle : Obligations.WrCycle := by
  intro s hr hp
  obtain ⟨t, ht⟩ := step_complete s
  have hloop := step_next_sameLoop hr ht
  by_cases hnone : ∀ ok, s.inputs.busRsp ≠ .wrDone ok
  · rw [acqNext_of_unanswered (s := s.beginCycle) (outstanding_iff.mpr (.inl hp)) (accepts_of_wr hp hnone)] at hloop
    exact ⟨t, ht, hloop.frame, hloop.measT, hloop.measRH, hloop.tv, hloop.notify, hloop.busReq,
      fun h => absurd h (hnone _), fun h => absurd h (hnone _),
      fun _ => ⟨hloop.acqPhase.trans hp, hloop.acqCnt, hloop.lastResult, hloop.diag⟩⟩
  · obtain ⟨ok, hrsp⟩ := not_forall_not.mp hnone
    rw [hrsp]
    cases ok with
    | true =>
      rw [acqNext_of_wrDone (s := s.beginCycle) hp hrsp] at hloop
      exact ⟨t, ht, hloop.frame, hloop.measT, hloop.measRH, hloop.tv, hloop.notify, hloop.busReq,
        fun _ => ⟨hloop.acqPhase, hloop.acqCnt, hloop.lastResult, hloop.diag⟩, nofun, fun h => absurd rfl (h true)⟩
    | false =>
      rw [acqNext_of_wrFailed (s := s.beginCycle) hp hrsp] at hloop
      exact ⟨t, ht, hloop.frame, hloop.measT, hloop.measRH, hloop.tv, hloop.notify, hloop.busReq, nofun,
        fun _ => ⟨hloop.acqPhase, hloop.acqCnt, hloop.lastResult, hloop.diag⟩, fun h => absurd rfl (h false)⟩

/-- Settles O28: the rule of RD, by the response. -/
theorem rdCycle : Obligations.RdCycle := by
  intro s hr hp
  obtain ⟨t, ht⟩ := step_complete s
  have hloop := step_next_sameLoop hr ht
  by_cases hnone : ∀ ok f, s.inputs.busRsp ≠ .rdDone ok f
  · rw [acqNext_of_unanswered (s := s.beginCycle) (outstanding_iff.mpr (.inr hp)) (accepts_of_rd hp hnone)] at hloop
    exact ⟨t, ht, hloop.measT, hloop.measRH, hloop.tv, hloop.notify, hloop.busReq,
      fun f h => absurd h (hnone _ f), fun f h => absurd h (hnone _ f),
      fun _ => ⟨hloop.acqPhase.trans hp, hloop.frame, hloop.acqCnt, hloop.lastResult, hloop.diag⟩⟩
  · push Not at hnone
    obtain ⟨ok, f, hrsp⟩ := hnone
    rw [hrsp]
    cases ok with
    | true =>
      rw [acqNext_of_rdDone (s := s.beginCycle) hp hrsp] at hloop
      refine ⟨t, ht, hloop.measT, hloop.measRH, hloop.tv, hloop.notify, hloop.busReq, ?_, nofun,
        fun h => absurd rfl (h true f)⟩
      rintro _ ⟨⟩
      exact ⟨hloop.acqPhase, hloop.frame, hloop.acqCnt, hloop.lastResult, hloop.diag⟩
    | false =>
      rw [acqNext_of_rdFailed (s := s.beginCycle) hp hrsp] at hloop
      exact ⟨t, ht, hloop.measT, hloop.measRH, hloop.tv, hloop.notify, hloop.busReq, nofun,
        fun _ _ => ⟨hloop.acqPhase, hloop.frame, hloop.acqCnt, hloop.lastResult, hloop.diag⟩,
        fun h => absurd rfl (h false f)⟩

/-- Settles O29: EVAL with a frame that passes and with one that fails; the example frame passes. -/
theorem evalCycle : Obligations.EvalCycle := by
  intro s hr hp
  obtain ⟨t, ht⟩ := step_complete s
  have hloop := step_next_sameLoop hr ht
  have hcrc := frameValid_iff s.frame
  cases hf : frameValid s.frame with
  | true =>
    rw [acqNext_of_succeeds (s := s.beginCycle) ⟨hp, hf⟩] at hloop
    refine ⟨t, ht, hloop.acqPhase, hloop.acqCnt, hloop.frame, hloop.busReq, ?_, fun hframe => ?_⟩
    · rw [if_pos (hcrc.mp hf), hloop.notify, hloop.tv]
      exact ⟨hloop.measT, hloop.measRH, rfl, rfl, hloop.lastResult, hloop.diag⟩
    · rw [hloop.measT, hloop.measRH, hloop.tv, hloop.notify]
      simp [hframe, frameRawT, frameRawRH, decodeTemperature_example, decodeHumidity_example, tvOf_example]
  | false =>
    rw [acqNext_of_eval_invalid (s := s.beginCycle) hp hf] at hloop
    refine ⟨t, ht, hloop.acqPhase, hloop.acqCnt, hloop.frame, hloop.busReq, ?_, fun hframe => ?_⟩
    · rw [if_neg (mt hcrc.mpr (Bool.eq_false_iff.mp hf))]
      exact ⟨hloop.measT, hloop.measRH, hloop.tv, hloop.notify, hloop.lastResult, hloop.diag⟩
    · rw [hframe, frameValid_example] at hf
      exact absurd hf nofun

/-- Settles O56: the loop's own step and the controller's own step, each from states that agree on what it reads. -/
theorem loopAndActuatorAreIndependent : Obligations.LoopAndActuatorAreIndependent := by
  refine ⟨fun s s' hr hr' hphase hcnt hframe hmeasT hmeasRH htv hlast hready hrsp => ?_,
    fun s s' hr hr' hact hcnt hcmd hslot hout => ?_⟩
  · obtain ⟨t, ht⟩ := step_complete s
    obtain ⟨t', ht'⟩ := step_complete s'
    have hstart : SameLoop s'.beginCycle s.beginCycle :=
      ⟨hphase, hcnt, hframe, hmeasT, hmeasRH, htv, hlast, rfl, rfl, rfl⟩
    have hloop := ((step_next_sameLoop hr' ht').symm.trans (hstart.acqNext hready hrsp)).trans
      (step_next_sameLoop hr ht)
    exact ⟨t, t', ht, ht', hloop.acqPhase, hloop.acqCnt, hloop.frame, hloop.measT, hloop.measRH, hloop.tv,
      hloop.lastResult, hloop.busReq, hloop.notify, hloop.diag⟩
  · obtain ⟨t, ht⟩ := step_complete s
    obtain ⟨t', ht'⟩ := step_complete s'
    have hstart : SamePulse s' s := ⟨hact, hcnt, hcmd, hout⟩
    have hpulse := ((step_next_samePulse hr' ht').symm.trans (hstart.actStep hslot).1).trans
      (step_next_samePulse hr ht)
    exact ⟨t, t', ht, ht', hpulse.actState, hpulse.actCnt, hpulse.actCmd, hpulse.out⟩

/-- Settles O22: the guards of the two operations, in START. -/
theorem startOperations : Obligations.StartOperations := fun _ hp =>
  ⟨exec_busReadyCheck_of_notReady hp, exec_busReadyCheck_of_ready, exec_trigWrite_of_ready hp⟩

/-- Settles O25: the count in SETTLE, by what it holds. -/
theorem settleWaitCountsDown : Obligations.SettleWaitCountsDown := by
  intro s hp
  refine ⟨exec_settleWait_of_last hp, fun h2 => ?_, fun h0 => ?_⟩
  · rw [exec_settleWait_of_not_last hp (by omega), countAcq_of_pos (by omega)]
  · exact ⟨_, exec_settleWait_of_not_last hp (by omega)⟩

/-- Settles O30: the count in SLEEP, by what it holds. -/
theorem periodWaitCountsDown : Obligations.PeriodWaitCountsDown := by
  intro s hp
  refine ⟨exec_periodWait_of_last hp, fun h2 => ?_, fun h0 => ?_⟩
  · rw [exec_periodWait_of_not_last hp (by omega), countAcq_of_pos (by omega)]
  · exact ⟨_, exec_periodWait_of_not_last hp (by omega)⟩

/-- Settles O27: the guard of FRAME_READ is RD. -/
theorem frameReadLatchesTheFrame : Obligations.FrameReadLatchesTheFrame := fun _ _ hp => if_pos hp

/-- Settles O37: each of the six operations is guarded by its phase. -/
theorem sequencerOperationsKeepToTheirPhase : Obligations.SequencerOperationsKeepToTheirPhase := fun _ =>
  ⟨fun hp => ⟨if_neg fun h => hp h.1, if_neg fun h => hp h.1⟩, fun hp => if_neg hp, fun _ hp => if_neg hp,
    fun hp => if_neg hp, fun _ hp => if_neg fun h => hp h.1⟩

end Sys2Proof.Proofs

/-! PROOFS. The statement about the exceptions (60_exceptions.md): the error table as the loop's four failing ends, who
writes FRAME, and that no host request reads it. -/

namespace Sys2Proof.Machine

/-! ### The error table (R261) -/

/-- R261: the phase and the cause of each error. NONE and OK are no errors. -/
def State.errorCause (s : State) : Result → Prop
  | .none => False
  | .ok => False
  | .busNotReady => s.acqPhase = .start ∧ s.inputs.busReady = false
  | .writeFailed => s.acqPhase = .wr ∧ s.inputs.busRsp = .wrDone false
  | .readFailed => s.acqPhase = .rd ∧ ∃ f, s.inputs.busRsp = .rdDone false f
  | .checksumMismatch => s.acqPhase = .eval ∧ frameValid s.frame = false

theorem SameLoop.refl (s : State) : SameLoop s s := ⟨rfl, rfl, rfl, rfl, rfl, rfl, rfl, rfl, rfl, rfl⟩

/-- R114, R237: a frame that fails the check leaves its CRC on a signal besides, and no more of itself. -/
theorem rejectFrame_sameLoop (s : State) : SameLoop (s.endIter .checksumMismatch) s.rejectFrame := by
  constructor <;> rfl

/-- R261, R262: the cause of an error makes the loop do EndIter of that error and nothing else. -/
theorem acqNext_of_errorCause {s : State} {e : Result} (h : s.errorCause e) : SameLoop (s.endIter e) s.acqNext := by
  cases e with
  | none | ok => exact h.elim
  | busNotReady =>
    obtain ⟨hp, hb⟩ := h
    exact acqNext_of_start_notReady hp hb ▸ .refl _
  | writeFailed =>
    obtain ⟨hp, hrsp⟩ := h
    exact acqNext_of_wrFailed hp hrsp ▸ .refl _
  | readFailed =>
    obtain ⟨hp, f, hrsp⟩ := h
    exact acqNext_of_rdFailed hp hrsp ▸ .refl _
  | checksumMismatch =>
    obtain ⟨hp, hf⟩ := h
    exact acqNext_of_eval_invalid hp hf ▸ rejectFrame_sameLoop s

/-- R261: a DIAG event of the loop's own, other than OK, has the cause the table gives it. -/
theorem errorCause_of_acqNext_diag {s : State} {e : Result} (he : e ≠ .ok) (hsilent : s.outputs.diag = none)
    (h : s.acqNext.outputs.diag = some e) : s.errorCause e := by
  have hkept : s.outputs.diag ≠ some e := by simp [hsilent]
  unfold State.acqNext at h
  split at h
  next hp =>
    split at h
    next => exact absurd h hkept
    next hb =>
      cases h
      exact ⟨hp, Bool.eq_false_iff.mpr hb⟩
  next hp =>
    unfold State.awaitWrite at h
    split at h
    next => exact absurd h hkept
    next hrsp =>
      cases h
      exact ⟨hp, hrsp⟩
    next => exact absurd h hkept
    next => exact absurd h hkept
  next => split at h <;> exact absurd h hkept
  next hp =>
    unfold State.readNext at h
    split at h
    next => exact absurd h hkept
    next f hrsp =>
      cases h
      exact ⟨hp, f, hrsp⟩
    next => exact absurd h hkept
    next => exact absurd h hkept
  next hp =>
    split at h
    next => exact absurd (Option.some.inj h).symm he
    next hf =>
      cases h
      exact ⟨hp, Bool.eq_false_iff.mpr hf⟩
  next => split at h <;> exact absurd h hkept

section Cycle

variable {s t : State} {e : Result} (hr : s.inputs.rst = false) (ht : step s = .next t)

include hr ht

/-- R261, R262: a cycle with the cause of an error is, for the loop, EndIter of that error. -/
theorem step_of_errorCause (h : s.errorCause e) : SameLoop (s.beginCycle.endIter e) t :=
  (acqNext_of_errorCause (s := s.beginCycle) h).trans (step_next_sameLoop hr ht)

/-- R261: the error table, as an equivalence for every code but OK. -/
theorem step_diag_iff_errorCause (he : e ≠ .ok) : t.outputs.diag = some e ↔ s.errorCause e :=
  ⟨fun h => errorCause_of_acqNext_diag (s := s.beginCycle) he rfl ((step_next_sameLoop hr ht).diag.symm.trans h),
    fun h => (step_of_errorCause hr ht h).diag⟩

end Cycle

/-! ### FRAME (R234, R261) -/

/-- R234: the loop writes FRAME with an accepted read alone. -/
theorem acqNext_frame_cases (s : State) :
    s.acqNext.frame = s.frame ∨ s.acqPhase = .rd ∧ s.inputs.busRsp = .rdDone true s.acqNext.frame := by
  unfold State.acqNext
  split
  next => split <;> exact .inl rfl
  next =>
    unfold State.awaitWrite
    split <;> exact .inl rfl
  next => split <;> exact .inl rfl
  next hp =>
    unfold State.readNext
    split
    next f hrsp => exact .inr ⟨hp, hrsp⟩
    next => exact .inl rfl
    next => exact .inl rfl
    next => exact .inl rfl
  next => split <;> exact .inl rfl
  next => split <;> exact .inl rfl

/-- R172 to R177: a host request does not read FRAME, so it commutes with a write of it. -/
theorem exec_hreqInstr_latchFrame (op : BitVec 3) (a : BitVec 5) (d : Byte) (s : State) (f : Frame) :
    exec (hreqInstr op a d) (s.latchFrame f) = andThen (exec (hreqInstr op a d) s) fun u => .next (u.latchFrame f) := by
  cases op using opcode_cases with
  | h2 =>
    change exec (.cmdWrite a d) _ = andThen (exec (.cmdWrite a d) s) _
    rw [exec_cmdWrite, exec_cmdWrite, exec_decodeCmdb, exec_decodeCmdb]
    rfl
  | _ => rfl

/-- R261: no host operation's answer depends on FRAME. -/
theorem exec_decodeHreq_outputs_of_frame (w : U16) (s : State) (f : Frame) :
    ∃ a b, exec (decodeHreq w) s = .next a ∧ exec (decodeHreq w) { s with frame := f } = .next b ∧
      a.outputs = b.outputs := by
  obtain ⟨u, hu⟩ := exec_complete (decodeHreq w) s
  have hframe := exec_hreqInstr_latchFrame (hreqOp w) (hreqAddr w) (hreqData w) s f
  rw [← decodeHreq_eq_hreqInstr, hu, andThen_next] at hframe
  exact ⟨u, u.latchFrame f, hu, hframe, rfl⟩

end Sys2Proof.Machine

namespace Sys2Proof.Proofs

open Sys2Proof.Machine

/-- Settles O32: the error table is the loop's failing ends, each of which is EndIter of its code alone. -/
theorem errorsHaveTheirCauses : Obligations.ErrorsHaveTheirCauses := by
  intro s hr
  obtain ⟨t, ht⟩ := step_complete s
  have hcause (e : Result) (he : e ≠ .ok) : t.outputs.diag = some e ↔ s.errorCause e :=
    step_diag_iff_errorCause hr ht he
  refine ⟨t, ht, hcause _ nofun, hcause _ nofun, hcause _ nofun, hcause _ nofun, fun e h he => ?_, fun hne => ?_,
    fun w f => exec_decodeHreq_outputs_of_frame w s f, rfl, rfl, rfl, rfl⟩
  · have hend := step_of_errorCause hr ht ((hcause e he).mp h)
    exact ⟨hend.lastResult, hend.acqPhase, hend.acqCnt, hend.frame, hend.measT, hend.measRH, hend.tv, hend.notify,
      hend.busReq⟩
  · have hframe := (step_next_sameLoop hr ht).frame
    rw [hframe] at hne ⊢
    exact (acqNext_frame_cases s.beginCycle).resolve_left hne

end Sys2Proof.Proofs

/-! PROOFS. The statement about reset (70_reset_and_hazards.md): RESET_STATE and its DIAG words, and the cycle with
rst = 1 as a step to it. -/

namespace Sys2Proof.Machine

/-! ### RESET_STATE (R291) -/

/-- R291: RESET_STATE holds the values of the table, whatever inputs come after it. -/
theorem reset_with_inputs_atReset (is : List Inputs) (n : Nat) :
    ({ State.reset with stimuli := is, cycle := n } : State).AtReset where
  acqPhase := rfl
  acqCnt := rfl
  frame := rfl
  measT := rfl
  measRH := rfl
  tv := rfl
  lastResult := rfl
  cmdLast := rfl
  actState := rfl
  actCnt := rfl
  actCmd := rfl
  slot := rfl
  out := rfl

theorem reset_atReset : State.reset.AtReset := reset_with_inputs_atReset [] 0

/-- R290: the reset cycle leaves RESET_STATE; only the inputs move on. -/
theorem resetCycle_atReset (s : State) : s.resetCycle.AtReset :=
  reset_with_inputs_atReset s.stimuli.tail (s.cycle + 1)

/-- R36, R291: a state with the values of the table reads 0 at every DIAG address but that of STATUS. -/
theorem State.AtReset.diagWord_eq_zero {s : State} (h : s.AtReset) {a : BitVec 5} (ha : a ≠ 0#5) :
    s.diagWord a = 0x00000000#32 := by
  rw [diagWord_eq, if_neg ha, h.tv, h.measT, h.measRH, h.cmdLast]
  simp

end Sys2Proof.Machine

namespace Sys2Proof.Proofs

open Sys2Proof.Machine

/-- Settles O11: RESET_STATE read off element by element, and the one cycle that leads to it. -/
theorem resetLeavesTheResetState : Obligations.ResetLeavesTheResetState := by
  refine ⟨reset_atReset, reset_status, fun a ha => reset_atReset.diagWord_eq_zero ha, fun s hr => ?_⟩
  exact ⟨s.resetCycle, step_of_rst hr, resetCycle_atReset s, rfl, rfl, rfl, rfl, rfl⟩

end Sys2Proof.Proofs
